-- ==== Sys2Proof/Word.lean ====
section
/-! DEFINITION. The word types: bytes of the ports and memories, the 32-bit transaction word (R110), the
15-bit VRAM address registers (R31, R32) and the 24-bit RGB value (R267). -/

namespace Sys2Proof

/-- A register slot, a data byte, a memory cell (R20, R70; all quantities are unsigned, R7). -/
abbrev Byte := BitVec 8

/-- The transaction word of an operation (R110). -/
abbrev Word := BitVec 32

/-- The running address and the latch address (R31, R32). -/
abbrev VAddr := BitVec 15

/-- One pixel of the framebuffer: red in bits 23:16, green in 15:8, blue in 7:0 (R267). -/
abbrev Rgb := BitVec 24

end Sys2Proof
end

