-- ==== Sys2Proof/Config.lean ====
section
/-! DEFINITION. The configuration record VARIANT (R5), the names the configuration and the oracles use, and the
values the spec leaves open: constants without a body, so that no proof can know them. -/

namespace Sys2Proof

/-- The nametable mirroring schemes of R5 and R74. -/
inductive Mirroring where
  | none
  | vertical
  | horizontal
  | high
  | low
  | fourScreen
deriving DecidableEq, Repr

/-- What stands behind the pattern oracle (R90): the open model, where each answer is a draw, or the closed model, where
the collaborator is the array `chr` of R47 (log 5). -/
inductive PatternModel where
  | openModel
  | closedModel
deriving DecidableEq, Repr

/-- How a palette byte becomes RGB (R5, R263, R264). -/
inductive PaletteStrategy where
  | rgbRom
  | generated
deriving DecidableEq, Repr

/-- The VARIANT record (R5), the fields that differ between variants. It is fixed at configuration time: State
carries it and no operation changes it (log 2). -/
structure Variant where
  /-- SCANLINES_PER_FRAME -/
  scanlinesPerFrame : Nat
  /-- VBLANK_FIRST_SCANLINE -/
  vblankFirstScanline : Nat
  /-- MIRRORING -/
  mirroring : Mirroring
  /-- PALETTE_STRATEGY -/
  paletteStrategy : PaletteStrategy
  /-- COLOR_TABLE: the name of this variant's table. Its contents, `Config.rom`, `Config.gen` and `Config.postOpen` at
  that name, are open (D43), so two variants' tables are the same or not as their names say (log 7). -/
  colorTable : Nat
  /-- SECURITY_VALUE, 0 means absent -/
  securityValue : BitVec 5
  /-- SPRITE_WRITE_LIMIT -/
  spriteWriteLimit : Bool
  /-- DOTS_PER_LINE -/
  dotsPerLine : Nat
  /-- HBLANK_DOT -/
  hblankDot : Nat
  /-- NMI_DELAY_DOTS -/
  nmiDelayDots : Nat
  /-- NMI_RACE_WINDOW -/
  nmiRaceWindow : Nat
  /-- SPRITE_Y_OFFSET -/
  spriteYOffset : Nat
  /-- CHR_WRITABLE -/
  chrWritable : Bool
  /-- S0HIT_X_LIMIT -/
  s0HitXLimit : Nat
deriving DecidableEq, Repr

/-- The block's own byte memories (R44, R45, R46). -/
inductive Space where
  | nametable
  | palette
  | oam
deriving DecidableEq, Repr

/-- The kind of a pattern read (R90). -/
inductive PatternKind where
  | tile
  | sprite
  | port
deriving DecidableEq, Repr

/-- `draw_phase`: which pipeline is fetching (R42). -/
inductive DrawPhase where
  | background
  | sprite
deriving DecidableEq, Repr

namespace Config

/-- What a cell of oam, nt_ram or palette_ram holds at power-on: some byte, fixed until the cell is written
(R98, R302). FREE VALUE, log 3. -/
opaque powerOnByte : Space → Nat → Byte

/-- What pixel `x` of row `y` of the framebuffer holds before the row is first written (R302). FREE VALUE, log 4. -/
opaque powerOnPixel : Nat → Nat → Rgb

/-- The open model's answer to the oracle read number `n`: its kind, the draw phase it sees, the address and the hint
(R90: the block assumes nothing of the answer). FREE VALUE, log 5. -/
opaque patternByte : (n : Nat) → PatternKind → DrawPhase → (addr : Nat) → (hint : BitVec 2) → Byte

/-- What a byte of the closed model's array holds where the launch state does not say (R47, U1): some byte, fixed until
written. FREE VALUE, log 5. -/
opaque powerOnPattern : (addr : Nat) → Byte

/-- The external memory's answer to the oracle read number `n` at a 16-bit address (R92). FREE VALUE, log 6. -/
opaque extByte : (n : Nat) → (addr : Nat) → Byte

/-- ROM[0 .. 63] of the RGB_ROM table of a name (R263). Contents not in the source. FREE VALUE, log 7. -/
opaque rom : (table : Nat) → BitVec 6 → Rgb

/-- GEN[0 .. 63] of the GENERATED table of a name (R264). Contents not in the source. FREE VALUE, log 7. -/
opaque gen : (table : Nat) → BitVec 6 → Rgb

/-- The arithmetic of `Post(e, m, rgb)` of the GENERATED table of a name, where some of its bits is set (R265 leaves it
open). FREE VALUE, log 7. -/
opaque postOpen : (table : Nat) → (emphasis : BitVec 3) → (mono : Bool) → Rgb → Rgb

end Config

end Sys2Proof
end

