-- ==== Sys2Proof/Machine/Bits.lean ====
section
/-! DEFINITION. Bit fields of R7: reading the field `v[lo + n - 1 : lo]` and assigning it. -/

namespace Sys2Proof.Machine

/-- `v[lo + n - 1 : lo]` as an unsigned number of `n` bits (R7). -/
def bits {w : Nat} (v : BitVec w) (lo n : Nat) : BitVec n := v.extractLsb' lo n

/-- `v` after `v[lo + n - 1 : lo] <- x`, every other bit as it was (R7, R9). -/
def setBits {w n : Nat} (v : BitVec w) (lo : Nat) (x : BitVec n) : BitVec w :=
  (v &&& ~~~((BitVec.allOnes n).setWidth w <<< lo)) ||| (x.setWidth w <<< lo)

/-- `BitReverse8`: bit `i` of the result is bit `7 - i` of `b` (R240). -/
def bitReverse8 (b : Byte) : Byte := b.reverse

/-- The 2-bit colour index `plane1[bit] :: plane0[bit]` (R206). -/
def planePixel (plane0 plane1 : Byte) (bit : Nat) : BitVec 2 :=
  BitVec.ofBool (plane1.getLsbD bit) ++ BitVec.ofBool (plane0.getLsbD bit)

end Sys2Proof.Machine
end

