-- ==== Sys2Proof/Machine/Layout.lean ====
section
/-! DEFINITION. In one place: the bit positions and address boundaries the spec decides (D4, D5, D6, D9, D14, D32,
D33, D37; 00_scope.md section 1 asks for this), the sizes of R5 that no variant changes, the constraints on VARIANT
(R6) and its presets. Log 12. -/

namespace Sys2Proof.Layout

/-! ### CONTROL0 (R22, D4) -/

/-- NT_BASE is bits 1:0. -/
abbrev ntBaseLo : Nat := 0
/-- INC -/
abbrev incBit : Nat := 2
/-- SPR_SELECT -/
abbrev sprSelectBit : Nat := 3
/-- CHR_SELECT -/
abbrev chrSelectBit : Nat := 4
/-- SPRITE_SIZE -/
abbrev spriteSizeBit : Nat := 5
/-- NMI_EN -/
abbrev nmiEnBit : Nat := 7

/-! ### CONTROL1 (R23, D5) -/

/-- MONO -/
abbrev monoBit : Nat := 0
/-- BG_L8 -/
abbrev bgL8Bit : Nat := 1
/-- SPR_L8 -/
abbrev sprL8Bit : Nat := 2
/-- BG_EN -/
abbrev bgEnBit : Nat := 3
/-- SPR_EN -/
abbrev sprEnBit : Nat := 4
/-- EMPHASIS is bits 7:5. -/
abbrev emphasisLo : Nat := 5

/-! ### STATUS (R24, D6) -/

/-- VBLANK -/
abbrev vblankBit : Nat := 7
/-- SPRITE0_HIT -/
abbrev sprite0HitBit : Nat := 6
/-- OVERFLOW -/
abbrev overflowBit : Nat := 5
/-- The three flags are bits 7:5. -/
abbrev flagsLo : Nat := 5

/-! ### The running address and the latch address (R33, D9) -/

/-- coarse_x is bits 4:0. -/
abbrev coarseXLo : Nat := 0
/-- coarse_y is bits 9:5. -/
abbrev coarseYLo : Nat := 5
/-- nt is bits 11:10: bit 10 the horizontal, bit 11 the vertical neighbour. -/
abbrev ntLo : Nat := 10
/-- fine_y is bits 14:12. -/
abbrev fineYLo : Nat := 12

/-! ### OAM attribute byte (R232, D37) -/

/-- PAL is bits 1:0. -/
abbrev palLo : Nat := 0
/-- BEHIND -/
abbrev behindBit : Nat := 5
/-- FLIP_H -/
abbrev flipHBit : Nat := 6
/-- FLIP_V -/
abbrev flipVBit : Nat := 7

/-! ### The PPU logical address space (R72, D14) and the nametable (R44, R203) -/

/-- Addresses are masked to 14 bits (R73). -/
abbrev vramSize : Nat := 0x4000
/-- First nametable address. -/
abbrev ntBase : Nat := 0x2000
/-- First palette address. -/
abbrev paletteBase : Nat := 0x3F00
/-- Bytes of one nametable bank. -/
abbrev bankSize : Nat := 0x400
/-- Offset of the attribute table in a nametable. -/
abbrev attributeOffset : Nat := 0x3C0
/-- Palette indices (R45). -/
abbrev paletteSize : Nat := 32
/-- Bytes of OAM (R46). -/
abbrev oamSize : Nat := 256
/-- Bytes of pattern space (R70). -/
abbrev patternSize : Nat := 0x2000
/-- Bytes of external memory (R70). -/
abbrev externalSize : Nat := 0x10000
/-- Distance of plane 1 from plane 0 in a tile (R205). -/
abbrev planeDistance : Nat := 8
/-- Bytes of one pattern page (R72). -/
abbrev pageSize : Nat := 0x1000
/-- Bytes of one tile (R205). -/
abbrev tileSize : Nat := 16

/-! ### Sizes that no variant changes (R5, R209) -/

/-- VISIBLE_LINES -/
abbrev visibleLines : Nat := 240
/-- SCREEN_WIDTH -/
abbrev screenWidth : Nat := 256
/-- SPRITES_PER_LINE -/
abbrev spritesPerLine : Nat := 8
/-- OAM_ENTRIES -/
abbrev oamEntries : Nat := 64
/-- Tile columns fetched for a line. -/
abbrev columnsPerLine : Nat := 33
/-- Pixel columns a clipped layer does not show (R210, R244). -/
abbrev clipWidth : Nat := 8

end Sys2Proof.Layout

namespace Sys2Proof

/-- The constraints of R6 on the configuration record. -/
abbrev Variant.Ok (v : Variant) : Prop :=
  Layout.visibleLines < v.vblankFirstScanline ∧ v.vblankFirstScanline + 1 < v.scanlinesPerFrame ∧
  1 ≤ v.hblankDot ∧ v.hblankDot < v.dotsPerLine ∧ v.nmiRaceWindow < v.hblankDot ∧
  v.nmiDelayDots < (v.scanlinesPerFrame - 1 - v.vblankFirstScanline) * v.dotsPerLine

/-- The preset NTSC = (262, 241) of R6, every other field at the default or suggested value of R5; MIRRORING,
PALETTE_STRATEGY, COLOR_TABLE and the absent SECURITY_VALUE have none there (DESIGN CHOICE, log 2). -/
def Variant.ntsc : Variant where
  scanlinesPerFrame := 262
  vblankFirstScanline := 241
  mirroring := .vertical
  paletteStrategy := .generated
  colorTable := 0
  securityValue := 0
  spriteWriteLimit := true
  dotsPerLine := 341
  hblankDot := 256
  nmiDelayDots := 12
  nmiRaceWindow := 1
  spriteYOffset := 1
  chrWritable := false
  s0HitXLimit := 256

/-- The preset PAL = (312, 241) of R6. -/
def Variant.pal : Variant := { Variant.ntsc with scanlinesPerFrame := 312 }

/-- The preset PAL_CLONE = (312, 291) of R6. -/
def Variant.palClone : Variant := { Variant.ntsc with scanlinesPerFrame := 312, vblankFirstScanline := 291 }

end Sys2Proof
end

