-- ==== Sys2Proof/Machine/State.lean ====
section
/-! DEFINITION. The state of the block (10_state.md), the reasons a step stops, and the state after reset (R61, R300). -/

namespace Sys2Proof.Machine

/-- The one way a step stops that is no refusal. The hardware has no fault (R280). -/
inductive Fault where
  /-- Raised by `step` alone, when no operation is pending: no agent of R10 has presented one, so the block does
  nothing. Safe: the model stops where the hardware waits. Log 1. -/
  | noOperationPending
deriving DecidableEq, Repr

/-- `refuse(reason)`: the closed list of R124, and the model's own notModelled. -/
inductive Refusal where
  /-- An operation without a meaning yet, by its mnemonic. Raised by `exec` alone. Safe. -/
  | notModelled (mnemonic : String)
  /-- Raised by `step`: the word's CLASS is 6 .. 15 (R122). Safe: the word spells no operation. -/
  | reservedClass
  /-- Raised by `step`: ZERO is not 0 or RNW is misplaced (R123). Safe: the word spells no operation. -/
  | reservedField
  /-- Raised by `step`: an event code above 2 (R123). Safe: the word spells no operation. -/
  | badEventCode
  /-- Raised by EV_HBLANK, and by TICK through it: a second hblank in one scanline period (R183). Safe: the spec
  gives a broken event contract no behaviour. -/
  | hblankTwice
  /-- Raised by EV_SCANLINE, and by TICK through it: no hblank since the previous scanline event (R183). Safe: as
  `hblankTwice`. -/
  | scanlineWithoutHblank
  /-- Raised by `deviceStart`: VARIANT breaks R6 (R281, R301). Safe: no run starts. -/
  | badVariant
  /-- Raised by `deviceStart`: no pattern-data collaborator (R281, R301). Safe: no run starts. -/
  | noPatternCollaborator
deriving DecidableEq, Repr

/-- The outcome of an operation. -/
abbrev Result := Host.Outcome

/-- Bytes of a memory that have been written, by address, strictly rising; an address not listed holds no written
byte (log 3). -/
abbrev Memory := List Host.Cell

/-- An output event (R62). -/
inductive OutputEvent where
  /-- the interrupt strobe (R282) -/
  | nmi
  /-- HBLANK(scanline, in_vblank, blanked) (R185) -/
  | hblank (scanline : Nat) (inVblank blanked : Bool)
  /-- SCANLINE(s), the new scanline -/
  | scanline (s : Nat)
  /-- VBLANK(1) at vblank entry, VBLANK(0) at PRERENDER entry -/
  | vblank (entered : Bool)
  /-- ROW(y, pixels) -/
  | row (y : Nat) (pixels : List Rgb)
deriving DecidableEq, Repr

/-- What the pattern-data collaborator observes (R12, R90, R82). -/
inductive PatternCall where
  | read (kind : PatternKind) (phase : DrawPhase) (addr : Nat) (hint : BitVec 2)
  | write (addr : Nat) (data : Byte)
deriving DecidableEq, Repr

/-- One selected sprite of a line: `sel[k]`, `spr_attr[k]`, `spr_x[k]`, `spr_p0[k]`, `spr_p1[k]` (R52). -/
structure SpriteSlot where
  sel : Nat
  attr : Byte
  x : Byte
  p0 : Byte
  p1 : Byte
deriving DecidableEq, Repr

/-- The per-scanline transient buffers of R50 to R53. `sel_count` is the number of slots in `sprites`. -/
structure LineBuffers where
  bgOpaque : List Bool
  sprClaimed : List Bool
  bgPix : List (BitVec 2)
  bgGroup : List (BitVec 2)
  ntByte : Byte
  atByte : Byte
  plane0 : Byte
  plane1 : Byte
  sprites : List SpriteSlot
  outIdx : List (BitVec 5)
deriving DecidableEq, Repr

/-- The buffers after a clear: all zero, `sel_count` = 0 (R61). -/
def LineBuffers.cleared : LineBuffers where
  bgOpaque := List.replicate Layout.screenWidth false
  sprClaimed := List.replicate Layout.screenWidth false
  bgPix := List.replicate Layout.screenWidth 0
  bgGroup := List.replicate Layout.screenWidth 0
  ntByte := 0
  atByte := 0
  plane0 := 0
  plane1 := 0
  sprites := []
  outIdx := List.replicate Layout.screenWidth 0

/-- The state of the block and of what stands around it. INVENTORY.md lists every element with its rule. -/
structure State where
  /-- VARIANT (R5), changed by no operation. -/
  variant : Variant
  /-- regs[0], CONTROL0 (R22) -/
  control0 : Byte
  /-- regs[1], CONTROL1 (R23) -/
  control1 : Byte
  /-- regs[2], STATUS (R24) -/
  status : Byte
  /-- regs[3], SPRITE_ADDRESS, the OAM cursor (R26) -/
  spriteAddress : Byte
  /-- regs[4], SPRITE_DATA (R27) -/
  spriteData : Byte
  /-- regs[5], SCROLL (R27) -/
  scroll : Byte
  /-- regs[6], ADDRESS (R27) -/
  address : Byte
  /-- regs[7], DATA (R27) -/
  data : Byte
  /-- the write toggle (R30) -/
  toggle : Bool
  /-- the running VRAM address (R31) -/
  refreshData : VAddr
  /-- the latch address (R32) -/
  refreshLatch : VAddr
  /-- fine-x (R34) -/
  xFine : BitVec 3
  /-- the DATA-port read buffer (R35) -/
  bufferedData : Byte
  /-- the last byte on the register port (R36) -/
  dataLatch : Byte
  /-- R40 -/
  scanline : Nat
  /-- R41 -/
  dot : Nat
  /-- R42 -/
  drawPhase : DrawPhase
  /-- nametable RAM, key bank * 1024 + offset (R44) -/
  ntRam : Memory
  /-- palette RAM, key the mirrored index (R45) -/
  paletteRam : Memory
  /-- Object Attribute Memory (R46) -/
  oam : Memory
  /-- the written rows of the framebuffer (R48) -/
  fb : List (Nat × List Rgb)
  /-- the transient buffers (R50 to R53) -/
  line : LineBuffers
  /-- R56 -/
  nmiArmed : Bool
  /-- R57 -/
  nmiSuppress : Bool
  /-- R58 -/
  nmiTimer : Nat
  /-- R59 -/
  hblankDone : Bool
  /-- the output history, oldest first (R62) -/
  outputs : List OutputEvent
  /-- the byte returned by each read operation, oldest first (R12) -/
  reads : List Byte
  /-- what the pattern-data collaborator has observed, oldest first (R12) -/
  patternCalls : List PatternCall
  /-- whether the pattern oracle is open or the array `chr` (R90, log 5); changed by no operation -/
  patternModel : PatternModel
  /-- the listed bytes of the closed model's array (R47, R90; log 5) -/
  chr : Memory
  /-- external bytes known to stand (R49, R92; log 6) -/
  ext : Memory
  /-- MODEL's own: the number of oracle reads so far, which names the next free value (log 5) -/
  draws : Nat
  /-- MODEL's own: transaction words presented and not yet performed, oldest first (log 1) -/
  pending : List Word
deriving DecidableEq, Repr

/-- The machine right after device start and RESET (R61, R300, R301): the values of R61, no memory cell written, no
history, nothing pending, the default variant (log 1, log 2, log 3, log 9). -/
def State.reset : State where
  variant := Variant.ntsc
  control0 := 0
  control1 := 0
  status := 0
  spriteAddress := 0
  spriteData := 0
  scroll := 0
  address := 0
  data := 0
  toggle := false
  refreshData := 0
  refreshLatch := 0
  xFine := 0
  bufferedData := 0
  dataLatch := 0
  scanline := 0
  dot := 0
  drawPhase := .background
  ntRam := []
  paletteRam := []
  oam := []
  fb := []
  line := LineBuffers.cleared
  nmiArmed := false
  nmiSuppress := false
  nmiTimer := 0
  hblankDone := false
  outputs := []
  reads := []
  patternCalls := []
  patternModel := .openModel
  chr := []
  ext := []
  draws := 0
  pending := []

end Sys2Proof.Machine
end

