-- ==== Sys2Proof/Machine/Operands.lean ====
section
/-! DEFINITION. The fields of the control registers and of the two address registers, and the selectors derived
from them (R22, R23, R28, R33). -/

namespace Sys2Proof.Machine

/-! ### CONTROL0 (R22, R28) -/

/-- NT_BASE of a byte written to CONTROL0. -/
def ntBaseOf (d : Byte) : BitVec 2 := bits d Layout.ntBaseLo 2

/-- NMI_EN -/
def State.nmiEn (s : State) : Bool := s.control0.getLsbD Layout.nmiEnBit

/-- `Inc`: 32 if the increment bit is set, else 1 (R150). -/
def State.inc (s : State) : Nat := if s.control0.getLsbD Layout.incBit then 32 else 1

/-- `tile_page` (R28). -/
def State.tilePage (s : State) : Nat := (s.control0.getLsbD Layout.chrSelectBit).toNat

/-- `sprite_page` (R28). -/
def State.spritePage (s : State) : Nat := (s.control0.getLsbD Layout.sprSelectBit).toNat

/-- `SpriteHeight`: 16 if SPRITE_SIZE is set, else 8 (R28, R233). -/
def State.spriteHeight (s : State) : Nat := if s.control0.getLsbD Layout.spriteSizeBit then 16 else 8

/-! ### CONTROL1 (R23, R28) -/

/-- MONO -/
def State.mono (s : State) : Bool := s.control1.getLsbD Layout.monoBit

/-- BG_L8 -/
def State.bgL8 (s : State) : Bool := s.control1.getLsbD Layout.bgL8Bit

/-- SPR_L8 -/
def State.sprL8 (s : State) : Bool := s.control1.getLsbD Layout.sprL8Bit

/-- BG_EN -/
def State.bgEn (s : State) : Bool := s.control1.getLsbD Layout.bgEnBit

/-- SPR_EN -/
def State.sprEn (s : State) : Bool := s.control1.getLsbD Layout.sprEnBit

/-- EMPHASIS -/
def State.emphasis (s : State) : BitVec 3 := bits s.control1 Layout.emphasisLo 3

/-- `RenderingEnabled` (R28). -/
def State.renderingEnabled (s : State) : Bool := s.bgEn || s.sprEn

/-! ### The address registers (R33) -/

/-- `coarse_x` -/
def coarseX (v : VAddr) : BitVec 5 := bits v Layout.coarseXLo 5

/-- `coarse_y` -/
def coarseY (v : VAddr) : BitVec 5 := bits v Layout.coarseYLo 5

/-- `nt` -/
def ntField (v : VAddr) : BitVec 2 := bits v Layout.ntLo 2

/-- `fine_y` -/
def fineY (v : VAddr) : BitVec 3 := bits v Layout.fineYLo 3

/-- `coarse_x <- x` -/
def setCoarseX (v : VAddr) (x : BitVec 5) : VAddr := setBits v Layout.coarseXLo x

/-- `coarse_y <- y` -/
def setCoarseY (v : VAddr) (y : BitVec 5) : VAddr := setBits v Layout.coarseYLo y

/-- `nt <- n` -/
def setNtField (v : VAddr) (n : BitVec 2) : VAddr := setBits v Layout.ntLo n

/-- `fine_y <- y` -/
def setFineY (v : VAddr) (y : BitVec 3) : VAddr := setBits v Layout.fineYLo y

/-- The DATA-port address `refresh_data[13:0]` (R31, R139). -/
def State.dataAddress (s : State) : Nat := (bits s.refreshData 0 14).toNat

/-- The register slot at a port offset: `regs[p]` (R20). -/
def State.reg (s : State) (p : Nat) : Byte :=
  match p % 8 with
  | 0 => s.control0
  | 1 => s.control1
  | 2 => s.status
  | 3 => s.spriteAddress
  | 4 => s.spriteData
  | 5 => s.scroll
  | 6 => s.address
  | _ => s.data

/-- The phases of a frame (R43, R170). -/
inductive Phase where
  | visible
  | postrender
  | vblank
  | prerender
deriving DecidableEq, Repr

/-- `Phase(s)` (R43). -/
def phaseOf (v : Variant) (s : Nat) : Phase :=
  if s < Layout.visibleLines then .visible
  else if s < v.vblankFirstScanline then .postrender
  else if s + 1 < v.scanlinesPerFrame then .vblank
  else .prerender

/-- The phase of the scanline in progress. -/
def State.phase (s : State) : Phase := phaseOf s.variant s.scanline

/-- `OamWriteAllowed` (R149). -/
def State.oamWriteAllowed (s : State) : Bool := !s.variant.spriteWriteLimit || decide (Layout.visibleLines ≤ s.scanline)

/-- `InRaceWindow(s, d)`: within `W` dots of vblank start (R148). The sums keep the spec's comparisons without
subtraction (log 13). -/
def inRaceWindow (v : Variant) (s d : Nat) : Bool :=
  (decide (s = v.vblankFirstScanline) && decide (d ≤ v.nmiRaceWindow)) ||
  (decide (s + 1 = v.vblankFirstScanline) && decide (v.dotsPerLine ≤ d + v.nmiRaceWindow))

end Sys2Proof.Machine
end

