-- ==== Sys2Proof/Machine/Flags.lean ====
section
/-! DEFINITION. The three STATUS flags (R24, R25) and the byte a STATUS read returns (R142). -/

namespace Sys2Proof.Machine

/-- VBLANK -/
def State.vblankFlag (s : State) : Bool := s.status.getLsbD Layout.vblankBit

/-- SPRITE0_HIT -/
def State.sprite0Hit (s : State) : Bool := s.status.getLsbD Layout.sprite0HitBit

/-- OVERFLOW -/
def State.overflow (s : State) : Bool := s.status.getLsbD Layout.overflowBit

/-- STATUS with one flag bit set to `b`. -/
def setFlag (status : Byte) (bit : Nat) (b : Bool) : Byte := setBits status bit (BitVec.ofBool b)

/-- `VBLANK <- b` -/
def State.setVblank (b : Bool) (s : State) : State := { s with status := setFlag s.status Layout.vblankBit b }

/-- `SPRITE0_HIT <- 1` when `hit`, else unchanged: the flag is set, never toggled (R246). -/
def State.raiseSprite0Hit (hit : Bool) (s : State) : State :=
  { s with status := setFlag s.status Layout.sprite0HitBit (s.sprite0Hit || hit) }

/-- `OVERFLOW <- 1` when `ninth`, else unchanged (R236). -/
def State.raiseOverflow (ninth : Bool) (s : State) : State :=
  { s with status := setFlag s.status Layout.overflowBit (s.overflow || ninth) }

/-- `VBLANK`, `SPRITE0_HIT`, `OVERFLOW` cleared together, on entering PRERENDER (R172). -/
def State.clearFlags (s : State) : State := { s with status := setBits s.status Layout.flagsLo (0 : BitVec 3) }

/-- Bits 4:0 of a STATUS read: the security value if the variant has one, else the port latch (R142). -/
def State.statusFiller (s : State) : BitVec 5 :=
  if s.variant.securityValue ≠ 0 then s.variant.securityValue else bits s.dataLatch 0 5

/-- The byte a STATUS read returns: the three flags above the filler (R142). -/
def State.statusValue (s : State) : Byte := bits s.status Layout.flagsLo 3 ++ s.statusFiller

end Sys2Proof.Machine
end

