-- ==== Sys2Proof/Machine/Resolver.lean ====
section
/-! DEFINITION. The VRAM address and mirroring resolver (R73, R74) and palette index mirroring (R83). -/

namespace Sys2Proof.Machine

/-- `NtFold(mode, sel)`: the physical bank of a nametable selection (R74). -/
def ntFold (mode : Mirroring) (sel : Nat) : Nat :=
  match mode with
  | .none => sel
  | .vertical => sel % 2
  | .horizontal => sel / 2 % 2
  | .high => 1
  | .low => 0
  | .fourScreen => sel

/-- `PalMirror(i)`: 0x10, 0x14, 0x18, 0x1C alias 0x00, 0x04, 0x08, 0x0C (R83). -/
def palMirror (i : Nat) : Nat :=
  if 16 ≤ i % 32 ∧ i % 4 = 0 then i % 32 - 16 else i % 32

/-- A physical location of the PPU logical address space (R72). -/
inductive Location where
  | pattern (addr : Nat)
  | nt (bank offset : Nat)
  | palette (index : Nat)
deriving DecidableEq, Repr

/-- `a[11:10]`, the nametable selection of a logical address (R73). -/
def ntSelect (a : Nat) : Nat := a / Layout.bankSize % 4

/-- `a[9:0]`, the offset in a nametable (R73). -/
def ntOffset (a : Nat) : Nat := a % Layout.bankSize

/-- `Resolve(a)`, for any non-negative integer, masked to 14 bits (R73). -/
def resolve (mode : Mirroring) (a : Nat) : Location :=
  if a % Layout.vramSize < Layout.ntBase then .pattern (a % Layout.vramSize)
  else if a % Layout.vramSize < Layout.paletteBase then .nt (ntFold mode (ntSelect a)) (ntOffset a)
  else .palette (palMirror a)

/-- The key of `nt_ram[bank][offset]` in the nametable memory (R44). -/
def ntKey (bank offset : Nat) : Nat := bank * Layout.bankSize + offset

/-- The key `NtRead(a)` and `NtWrite(a, v)` use: bits 13:12 of `a` are ignored (R78, R79). -/
def ntAddress (mode : Mirroring) (a : Nat) : Nat := ntKey (ntFold mode (ntSelect a)) (ntOffset a)

/-- The block's own byte a logical address resolves to; none for pattern space, which the collaborator owns (R72). -/
def Location.cell : Location → Option (Space × Nat)
  | .pattern _ => Option.none
  | .nt bank offset => some (.nametable, ntKey bank offset)
  | .palette index => some (.palette, index)

end Sys2Proof.Machine
end

