-- ==== Sys2Proof/Machine/Ops.lean ====
section
/-! DEFINITION. The shared operations: cells by address, the block's byte memories, the two oracles, reads and
writes through the resolver, output events, returned bytes, arming and delivering the NMI. -/

namespace Sys2Proof.Machine

/-! ### Cells by address -/

namespace Cells

/-- The entry at address `a`, if one is listed. -/
def lookup {β : Type} : List (Nat × β) → Nat → Option β
  | [], _ => Option.none
  | (k, v) :: rest, a => if a = k then some v else lookup rest a

/-- The list with the entry `v` at address `a`, in rising order of address. -/
def store {β : Type} : List (Nat × β) → Nat → β → List (Nat × β)
  | [], a, v => [(a, v)]
  | (k, w) :: rest, a, v =>
    if a < k then (a, v) :: (k, w) :: rest
    else if a = k then (a, v) :: rest
    else (k, w) :: store rest a v

/-- The canonical form: addresses strictly rising and below `size`. -/
abbrev Canonical {β : Type} (size : Nat) (m : List (Nat × β)) : Prop :=
  m.Pairwise (fun c d => c.1 < d.1) ∧ ∀ c ∈ m, c.1 < size

end Cells

/-- The canonical form of a memory of `size` cells. An address that is not listed holds no written byte, so no entry
can equal what an unlisted address reads as (log 3). -/
abbrev Memory.wf (size : Nat) (m : Memory) : Prop := Cells.Canonical size m

/-! ### The block's byte memories (R44, R45, R46) -/

/-- The written bytes of a space. -/
def State.memory (s : State) : Space → Memory
  | .nametable => s.ntRam
  | .palette => s.paletteRam
  | .oam => s.oam

/-- One byte of a space: the byte last written, else what the cell held at power-on (R98). -/
def State.readByte (s : State) (sp : Space) (a : Nat) : Byte :=
  (Cells.lookup (s.memory sp) a).getD (Config.powerOnByte sp a)

/-- The state after one byte is stored in a space. -/
def State.writeByte (s : State) (sp : Space) (a : Nat) (v : Byte) : State :=
  match sp with
  | .nametable => { s with ntRam := Cells.store s.ntRam a v }
  | .palette => { s with paletteRam := Cells.store s.paletteRam a v }
  | .oam => { s with oam := Cells.store s.oam a v }

/-- `oam[i]`, `i` modulo 256 (R87). -/
def State.oamByte (s : State) (i : Nat) : Byte := s.readByte .oam (i % Layout.oamSize)

/-- `PalRead(i)` (R84). -/
def State.palRead (s : State) (i : Nat) : Byte := s.readByte .palette (palMirror i)

/-- `PalWrite(i, v)` (R85). -/
def State.palWrite (s : State) (i : Nat) (v : Byte) : State := s.writeByte .palette (palMirror i) v

/-- `NtRead(a)` (R78). -/
def State.ntRead (s : State) (a : Nat) : Byte := s.readByte .nametable (ntAddress s.variant.mirroring a)

/-- `NtWrite(a, v)` (R79). -/
def State.ntWrite (s : State) (a : Nat) (v : Byte) : State := s.writeByte .nametable (ntAddress s.variant.mirroring a) v

/-! ### The oracles (R90, R92) -/

/-- `chr[p]` of the closed model: the byte listed, else what it held at power-on (R47, log 5). -/
def State.chrByte (s : State) (p : Nat) : Byte := (Cells.lookup s.chr p).getD (Config.powerOnPattern p)

/-- The answer of `ChrRead(kind, p, hint)`: a draw in the open model, `chr[p]` in the closed one (R90, log 5). -/
def State.patternAnswer (s : State) (kind : PatternKind) (p : Nat) (hint : BitVec 2) : Byte :=
  match s.patternModel with
  | .openModel => Config.patternByte s.draws kind s.drawPhase p hint
  | .closedModel => s.chrByte p

/-- The state after the collaborator has observed a pattern read (R12). -/
def State.notePatternRead (s : State) (kind : PatternKind) (p : Nat) (hint : BitVec 2) : State :=
  { s with patternCalls := s.patternCalls ++ [.read kind s.drawPhase p hint], draws := s.draws + 1 }

/-- `ChrRead(kind, p, hint)`: the answer and the state after the call (R90). -/
def chrRead (kind : PatternKind) (p : Nat) (hint : BitVec 2) (s : State) : Byte × State :=
  (s.patternAnswer kind p hint, s.notePatternRead kind p hint)

/-- A pattern write changes the array `chr`: in the closed model, if CHR_WRITABLE (R82). -/
def State.chrStores (s : State) : Bool := decide (s.patternModel = .closedModel) && s.variant.chrWritable

/-- `ChrWrite(p, v)`: the write is handed to the collaborator; the closed model's array takes it if CHR_WRITABLE (R82),
the open model's answers stay draws (R90). -/
def chrWrite (p : Nat) (v : Byte) (s : State) : State :=
  { s with
    patternCalls := s.patternCalls ++ [.write p v]
    chr := if s.chrStores then Cells.store s.chr p v else s.chr }

/-- The answer of `ExtRead(a)`: the byte known to stand, else a draw (R92, log 6). -/
def State.extAnswer (s : State) (a : Nat) : Byte := (Cells.lookup s.ext a).getD (Config.extByte s.draws a)

/-- `ExtRead(a)`: the answer and the state after the call (R92). -/
def extRead (a : Nat) (s : State) : Byte × State := (s.extAnswer a, { s with draws := s.draws + 1 })

/-! ### Accesses through the resolver (R80, R81) -/

/-- `VramRead(a)` (R80). -/
def vramRead (a : Nat) (s : State) : Byte × State :=
  match resolve s.variant.mirroring a with
  | .pattern p => chrRead .port p 0 s
  | .nt bank offset => (s.readByte .nametable (ntKey bank offset), s)
  | .palette i => (s.readByte .palette i, s)

/-- `VramWrite(a, v)` (R81). -/
def vramWrite (a : Nat) (v : Byte) (s : State) : State :=
  match resolve s.variant.mirroring a with
  | .pattern p => chrWrite p v s
  | .nt bank offset => s.writeByte .nametable (ntKey bank offset) v
  | .palette i => s.writeByte .palette i v

/-- `refresh_data <- (refresh_data + Inc) mod 2^15` (R99, R139). -/
def State.advanceAddress (s : State) : State := { s with refreshData := s.refreshData + BitVec.ofNat 15 s.inc }

/-! ### Outputs and returned bytes -/

/-- `emit E`: the event is added to the output history (R9, R62). -/
def State.emit (e : OutputEvent) (s : State) : State := { s with outputs := s.outputs ++ [e] }

/-- An operation returns a byte to its issuer (R12). -/
def State.returnByte (r : Byte) (s : State) : State := { s with reads := s.reads ++ [r] }

/-- The epilogue of a port read: `data_latch <- r`, and `r` is returned (R131). -/
def State.respond (r : Byte) (s : State) : State := { s with dataLatch := r, reads := s.reads ++ [r] }

/-! ### The interrupt source (R282, R283) -/

/-- The scheduled NMI is taken back: cancelled, suppressed, dropped (R283). -/
def State.disarmNmi (s : State) : State := { s with nmiArmed := false, nmiTimer := 0 }

/-- The NMI is scheduled (R172, R283). -/
def State.armNmi (s : State) : State := { s with nmiArmed := true, nmiTimer := s.variant.nmiDelayDots }

/-- Delivery, the block's whole part in taking an interrupt: `nmi_armed` and `nmi_timer` are cleared and the strobe
is emitted; nothing is saved, masked or vectored, and there is no return operation (R174, R288, R290). -/
def State.deliverNmi (s : State) : State := (s.disarmNmi).emit .nmi

/-! ### Sequencing -/

/-- Run `f` after an operation that answered a next state. -/
def andThen (r : Result State Fault Refusal) (f : State → Result State Fault Refusal) : Result State Fault Refusal :=
  match r with
  | .next s => f s
  | .fault e => .fault e
  | .refused e => .refused e

/-- The transient buffers are cleared (R172, R177, R300). -/
def State.clearLine (s : State) : State := { s with line := LineBuffers.cleared }

end Sys2Proof.Machine
end

