-- ==== Sys2Proof/Machine/Color.lean ====
section
/-! DEFINITION. Palette lookup and colour output (R260 to R268). -/

namespace Sys2Proof.Machine

/-- `Post(e, m, rgb)` of a GENERATED table: no change with no bit set, otherwise open (R264, R265, log 7). -/
def post (table : Nat) (emphasis : BitVec 3) (mono : Bool) (rgb : Rgb) : Rgb :=
  if emphasis = 0 ∧ mono = false then rgb else Config.postOpen table emphasis mono rgb

/-- `COLOR_TABLE(e, m, c)` of a variant: only bits 5:0 of the palette byte select (R262); RGB_ROM ignores `e` and `m`
(R263). -/
def colorTable (v : Variant) (emphasis : BitVec 3) (mono : Bool) (c : Byte) : Rgb :=
  match v.paletteStrategy with
  | .rgbRom => Config.rom v.colorTable (bits c 0 6)
  | .generated => post v.colorTable emphasis mono (Config.gen v.colorTable (bits c 0 6))

/-- The RGB value of a palette index under the current CONTROL1 and palette RAM (R261, R262). -/
def State.colorOf (s : State) (index : BitVec 5) : Rgb :=
  colorTable s.variant s.emphasis s.mono (s.palRead index.toNat)

/-- `ColorOut(y)`: the row is written whole and ROW is emitted (R266). -/
def colorOut (y : Nat) (s : State) : State :=
  let row := s.line.outIdx.map s.colorOf
  State.emit (.row y row) { s with fb := Cells.store s.fb y row }

/-- Pixel `x` of row `y` of the framebuffer as the render sink reads it (R48, R269): the value last written, else
what it held at power-on (R302). -/
def State.pixel (s : State) (y x : Nat) : Rgb :=
  ((Cells.lookup s.fb y).bind fun row => row[x]?).getD (Config.powerOnPixel y x)

end Sys2Proof.Machine
end

