-- ==== Sys2Proof/Machine/Background.lean ====
section
/-! DEFINITION. The background tile fetch and composite pipeline, `BgLine` (R200 to R213). The fields an address is
made of do not overlap, so the spec's `|` of shifted fields is written as a sum (log 13). -/

namespace Sys2Proof.Machine

/-- Address of the tile number of column `cx`, row `cy` of nametable `nt` (R202). -/
def tileAddress (nt cy cx : Nat) : Nat := Layout.ntBase + nt * 1024 + cy * 32 + cx

/-- Address of the attribute byte of that tile (R203). -/
def attributeAddress (nt cy cx : Nat) : Nat :=
  Layout.ntBase + nt * 1024 + Layout.attributeOffset + cy / 4 * 8 + cx / 4

/-- The shift that selects the quadrant's group: 0, 2, 4 or 6 (R204). -/
def attributeShift (cy cx : Nat) : Nat := cy / 2 % 2 * 4 + cx / 2 % 2 * 2

/-- The palette group of a tile from its attribute byte (R204). -/
def attributeGroup (atByte : Byte) (cy cx : Nat) : BitVec 2 := bits atByte (attributeShift cy cx) 2

/-- Address of row `row` of plane 0 of a tile (R205, R238). -/
def patternAddress (page tile row : Nat) : Nat := page * Layout.pageSize + tile * Layout.tileSize + row

/-- What one tile column fetches: the four fetch registers and the palette group (R51, R200). -/
structure Column where
  ntByte : Byte
  atByte : Byte
  plane0 : Byte
  plane1 : Byte
  group : BitVec 2
deriving DecidableEq, Repr

/-- The four fetches of one column, in the order of R200. -/
def fetchColumn (fy cy nt cx : Nat) (s : State) : Column × State :=
  let tile := vramRead (tileAddress nt cy cx) s
  let attr := vramRead (attributeAddress nt cy cx) tile.2
  let group := attributeGroup attr.1 cy cx
  let pa := patternAddress s.tilePage tile.1.toNat fy
  let p0 := chrRead .tile pa group attr.2
  let p1 := chrRead .tile (pa + Layout.planeDistance) group p0.2
  (⟨tile.1, attr.1, p0.1, p1.1, group⟩, p1.2)

/-- The coarse-x walk: the next column, and the horizontally adjacent nametable on the wrap (R208). -/
def nextColumn (cx nt : Nat) : Nat × Nat :=
  if cx + 1 = 32 then (0, if nt % 2 = 0 then nt + 1 else nt - 1) else (cx + 1, nt)

/-- `n` columns from column `cx` of nametable `nt` on, left to right (R200, R209). -/
def fetchColumns (fy cy : Nat) : (n nt cx : Nat) → State → List Column × State
  | 0, _, _, s => ([], s)
  | n + 1, nt, cx, s =>
    let c := fetchColumn fy cy nt cx s
    let rest := fetchColumns fy cy n (nextColumn cx nt).2 (nextColumn cx nt).1 c.2
    (c.1 :: rest.1, rest.2)

/-- The eight colour indices of a column, leftmost first (R206). -/
def Column.pixels (c : Column) : List (BitVec 2) :=
  (List.range 8).map fun b => planePixel c.plane0 c.plane1 (7 - b)

/-- The palette group of each of a column's eight pixels. -/
def Column.groups (c : Column) : List (BitVec 2) := List.replicate 8 c.group

/-- The screen's 256 entries of the stream of column pixels: pixel `b` of column `col` lands at
`col * 8 + b - x_fine`, and what falls outside the screen is dropped (R207). -/
def toScreen {α : Type} (xFine : BitVec 3) (stream : List α) : List α :=
  (stream.drop xFine.toNat).take Layout.screenWidth

/-- The left 8 columns made transparent (R210). -/
def clipLeft (pix : List (BitVec 2)) : List (BitVec 2) :=
  List.replicate Layout.clipWidth 0 ++ pix.drop Layout.clipWidth

/-- The line's colour indices after clipping (R200, R210). -/
def State.clipBackground (s : State) (pix : List (BitVec 2)) : List (BitVec 2) :=
  if s.bgL8 then pix else clipLeft pix

/-- The fetches of a line from the scroll position in `refresh_data` (R201, R209). -/
def fetchLine (s : State) : List Column × State :=
  fetchColumns (fineY s.refreshData).toNat (coarseY s.refreshData).toNat Layout.columnsPerLine
    (ntField s.refreshData).toNat (coarseX s.refreshData).toNat s

/-- The line buffers after the background of a line is built from its columns (R200, R211). -/
def State.backgroundBuffers (s : State) (cols : List Column) : LineBuffers :=
  let pix := s.clipBackground (toScreen s.xFine (cols.flatMap Column.pixels))
  let last := cols.getLast?.getD ⟨0, 0, 0, 0, 0⟩
  { s.line with
    bgPix := pix
    bgGroup := toScreen s.xFine (cols.flatMap Column.groups)
    bgOpaque := pix.map (· != 0)
    ntByte := last.ntByte
    atByte := last.atByte
    plane0 := last.plane0
    plane1 := last.plane1 }

/-- The line buffers with the background disabled: transparent everywhere, no fetch (R213). -/
def LineBuffers.noBackground (l : LineBuffers) : LineBuffers :=
  { l with
    bgPix := List.replicate Layout.screenWidth 0
    bgGroup := List.replicate Layout.screenWidth 0
    bgOpaque := List.replicate Layout.screenWidth false }

/-- `BgLine(y)` (R200): `y` does not enter, the vertical position comes from `refresh_data`. -/
def bgLine (s : State) : State :=
  if s.bgEn then { (fetchLine s).2 with line := s.backgroundBuffers (fetchLine s).1 }
  else { s with line := s.line.noBackground }

/-- `BgIndex(x)`: 0 for a transparent pixel, else the group and the colour index (R212). -/
def LineBuffers.bgIndex (l : LineBuffers) (x : Nat) : BitVec 5 :=
  if l.bgPix.getD x 0 = 0 then 0 else (0 : BitVec 1) ++ l.bgGroup.getD x 0 ++ l.bgPix.getD x 0

end Sys2Proof.Machine
end

