-- ==== Sys2Proof/Machine/Sprites.lean ====
section
/-! DEFINITION. The sprite engine: evaluation, pattern fetch and flip, compositing, the sprite-0 hit detector, that
is `SprLine` (R230 to R247). -/

namespace Sys2Proof.Machine

/-! ### OAM entries (R231) -/

/-- Y of sprite `n`. -/
def State.spriteY (s : State) (n : Nat) : Byte := s.oamByte (4 * n)

/-- The tile number of sprite `n`. -/
def State.spriteTile (s : State) (n : Nat) : Byte := s.oamByte (4 * n + 1)

/-- The attribute byte of sprite `n`. -/
def State.spriteAttr (s : State) (n : Nat) : Byte := s.oamByte (4 * n + 2)

/-- X of sprite `n`. -/
def State.spriteX (s : State) (n : Nat) : Byte := s.oamByte (4 * n + 3)

/-! ### Evaluation (R234 to R236) -/

/-- The first scanline sprite `n` shows on, an unbounded integer: no wrap (R234). -/
def State.spriteTop (s : State) (n : Nat) : Nat := (s.spriteY n).toNat + s.variant.spriteYOffset

/-- `InRange(n, y)` (R234). -/
def State.inRange (s : State) (y n : Nat) : Bool :=
  decide (s.spriteTop n ≤ y) && decide (y < s.spriteTop n + s.spriteHeight)

/-- The OAM entries in range on scanline `y`, ascending (R235). -/
def State.spritesInRange (s : State) (y : Nat) : List Nat := (List.range Layout.oamEntries).filter (s.inRange y)

/-- The slot of a newly selected sprite (R235). -/
def State.slotOf (s : State) (n : Nat) : SpriteSlot := ⟨n, s.spriteAttr n, s.spriteX n, 0, 0⟩

/-- `SprEval(y)`: the first eight in range are selected, a ninth sets OVERFLOW (R235, R236). -/
def sprEval (y : Nat) (s : State) : State :=
  let found := s.spritesInRange y
  let s1 := s.raiseOverflow (decide (Layout.spritesPerLine < found.length))
  { s1 with line := { s1.line with sprites := (found.take Layout.spritesPerLine).map s.slotOf } }

/-! ### Pattern fetch and flip (R237 to R240) -/

/-- The row of sprite `n` on scanline `y`, after FLIP_V (R237). -/
def State.spriteRow (s : State) (y : Nat) (k : SpriteSlot) : Nat :=
  if k.attr.getLsbD Layout.flipVBit then s.spriteHeight - 1 - (y - s.spriteTop k.sel) else y - s.spriteTop k.sel

/-- Pattern address of an 8 x 16 sprite: page from tile bit 0, two consecutive tiles (R239). -/
def tallPatternAddress (tile row : Nat) : Nat := patternAddress (tile % 2) (tile / 2 * 2 + row / 8) (row % 8)

/-- The pattern address of plane 0 of a selected sprite on scanline `y` (R237). -/
def State.spritePatternAddress (s : State) (y : Nat) (k : SpriteSlot) : Nat :=
  let tile := (s.spriteTile k.sel).toNat
  if s.spriteHeight = 8 then patternAddress s.spritePage tile (s.spriteRow y k)
  else tallPatternAddress tile (s.spriteRow y k)

/-- FLIP_H of a plane byte (R240). -/
def flipH (attr plane : Byte) : Byte := if attr.getLsbD Layout.flipHBit then bitReverse8 plane else plane

/-- The two fetches of one slot (R237). -/
def fetchSlot (y : Nat) (k : SpriteSlot) (s : State) : SpriteSlot × State :=
  let pa := s.spritePatternAddress y k
  let p0 := chrRead .sprite pa 0 s
  let p1 := chrRead .sprite (pa + Layout.planeDistance) 0 p0.2
  ({ k with p0 := flipH k.attr p0.1, p1 := flipH k.attr p1.1 }, p1.2)

/-- The fetches of the slots, in order (R237). -/
def fetchSlots (y : Nat) : List SpriteSlot → State → List SpriteSlot × State
  | [], s => ([], s)
  | k :: ks, s =>
    let r := fetchSlot y k s
    let rest := fetchSlots y ks r.2
    (r.1 :: rest.1, rest.2)

/-- `SprFetch(y)` (R237). -/
def sprFetch (y : Nat) (s : State) : State :=
  let r := fetchSlots y s.line.sprites s
  { r.2 with line := { r.2.line with sprites := r.1 } }

/-! ### Compositing (R241 to R244) and the sprite-0 hit (R245) -/

/-- The colour index of a slot's sprite at screen column `x`, 0 where the sprite does not cover it (R241). -/
def SpriteSlot.pixel (k : SpriteSlot) (x : Nat) : BitVec 2 :=
  if k.x.toNat ≤ x ∧ x ≤ k.x.toNat + 7 then planePixel k.p0 k.p1 (7 - (x - k.x.toNat)) else 0

/-- Sprite pixels are clipped in the left 8 columns when SPR_L8 = 0 (R244). -/
def State.spriteClipped (s : State) (x : Nat) : Bool := !s.sprL8 && decide (x < Layout.clipWidth)

/-- The slot that claims screen column `x`: the first with an opaque, unclipped pixel (R241, R243). -/
def State.claimant (s : State) (x : Nat) : Option SpriteSlot :=
  s.line.sprites.find? fun k => k.pixel x != 0 && !s.spriteClipped x

/-- The palette index of a sprite pixel: `0x10 | PAL << 2 | pix` (R241). -/
def SpriteSlot.index (k : SpriteSlot) (x : Nat) : BitVec 5 := (1 : BitVec 1) ++ bits k.attr Layout.palLo 2 ++ k.pixel x

/-- The composited index at `x`: the claimant's colour if it is in front or the background is transparent there,
else the background's (R241, R242). -/
def State.compositePixel (s : State) (x : Nat) : BitVec 5 :=
  match s.claimant x with
  | Option.none => s.line.bgIndex x
  | some k =>
    if k.attr.getLsbD Layout.behindBit = false ∨ s.line.bgOpaque.getD x false = false then k.index x
    else s.line.bgIndex x

/-- `Sprite0Test(x)` succeeds at `x`: OAM sprite 0 claims an opaque background pixel below the limit (R245). -/
def State.sprite0HitAt (s : State) (x : Nat) : Bool :=
  match s.claimant x with
  | Option.none => false
  | some k => decide (k.sel = 0) && s.line.bgOpaque.getD x false && decide (x < s.variant.s0HitXLimit)

/-- `SprComposite()` (R241). -/
def sprComposite (s : State) : State :=
  let s1 := s.raiseSprite0Hit ((List.range Layout.screenWidth).any s.sprite0HitAt)
  { s1 with
    line := { s.line with
      outIdx := (List.range Layout.screenWidth).map s.compositePixel
      sprClaimed := (List.range Layout.screenWidth).map fun x => (s.claimant x).isSome } }

/-- The line buffers before compositing: the background's indices, nothing claimed (R230). -/
def LineBuffers.backgroundOnly (l : LineBuffers) : LineBuffers :=
  { l with
    outIdx := (List.range Layout.screenWidth).map l.bgIndex
    sprClaimed := List.replicate Layout.screenWidth false }

/-- The selection of a line: no slot, then `SprEval(y)` if either layer is enabled (R230, R235). -/
def selectSprites (y : Nat) (s : State) : State :=
  let s1 := { s with line := { s.line with sprites := [] } }
  if s.renderingEnabled then sprEval y s1 else s1

/-- The line with its sprites selected and fetched and the background's indices in `out_idx` (R230). -/
def spriteStage (y : Nat) (s : State) : State :=
  let s1 := sprFetch y (selectSprites y s)
  { s1 with line := s1.line.backgroundOnly }

/-- `SprLine(y)` (R230): selection, fetch, then compositing if SPR_EN (R247). -/
def sprLine (y : Nat) (s : State) : State :=
  if s.sprEn then sprComposite (spriteStage y s) else spriteStage y s

end Sys2Proof.Machine
end

