-- ==== Sys2Proof/Machine/Render.lean ====
section
/-! DEFINITION. Rendering one scanline, the scroll reloads and the vertical increment (R177 to R180, R186). -/

namespace Sys2Proof.Machine

/-- `VerticalReload()`: all 15 bits, if rendering is enabled (R178). -/
def verticalReload (s : State) : State :=
  if s.renderingEnabled then { s with refreshData := s.refreshLatch } else s

/-- The running address after a horizontal reload: coarse_x and the horizontal nametable bit from the latch (R179). -/
def reloadHorizontal (v latch : VAddr) : VAddr :=
  setBits (setCoarseX v (coarseX latch)) Layout.ntLo (bits latch Layout.ntLo 1)

/-- `HorizontalReload()` (R179). -/
def horizontalReload (s : State) : State :=
  if s.renderingEnabled then { s with refreshData := reloadHorizontal s.refreshData s.refreshLatch } else s

/-- The running address one pixel row further down: fine_y, then coarse_y; row 29 wraps into the vertical neighbour,
row 31 wraps without it (R180). -/
def nextRow (v : VAddr) : VAddr :=
  if (fineY v).toNat < 7 then setFineY v (fineY v + 1)
  else
    let v1 := setFineY v 0
    if coarseY v = 29 then setBits (setCoarseY v1 0) (Layout.ntLo + 1) (~~~(bits v (Layout.ntLo + 1) 1))
    else if coarseY v = 31 then setCoarseY v1 0
    else setCoarseY v1 (coarseY v + 1)

/-- `IncrementY()` (R180). -/
def incrementY (s : State) : State :=
  if s.renderingEnabled then { s with refreshData := nextRow s.refreshData } else s

/-- The start of a rendered line: buffers cleared, horizontal reload, `draw_phase` BACKGROUND (R177). -/
def startLine (s : State) : State := { horizontalReload s.clearLine with drawPhase := .background }

/-- The background of the line, then `draw_phase` SPRITE (R177, R186). -/
def backgroundStage (s : State) : State := { bgLine (startLine s) with drawPhase := .sprite }

/-- `RenderScanline(y)` (R177). -/
def renderScanline (y : Nat) (s : State) : State := incrementY (colorOut y (sprLine y (backgroundStage s)))

end Sys2Proof.Machine
end

