-- ==== Sys2Proof/Machine/Events.lean ====
section
/-! DEFINITION. The three event operations and the dot clock TICK (R172 to R175, R183, R185). -/

namespace Sys2Proof.Machine

/-- The HBLANK event of R185. -/
def State.hblankOutput (s : State) : OutputEvent :=
  .hblank s.scanline (decide (s.phase = .vblank)) (!s.renderingEnabled)

/-- The effect of the hblank event, its contract met (R173). -/
def hblankEffect (s : State) : State :=
  let s1 := State.emit s.hblankOutput { s with hblankDone := true, dot := s.variant.hblankDot }
  if s.scanline < Layout.visibleLines then renderScanline s.scanline s1 else s1

/-- The hblank event; a second one in a scanline period is refused (R173, R183). -/
def hblankEvent (s : State) : Result State Fault Refusal :=
  if s.hblankDone then .refused .hblankTwice else .next (hblankEffect s)

/-- The NMI event: delivers a scheduled NMI, else nothing (R174). -/
def nmiEvent (s : State) : State := if s.nmiArmed then s.deliverNmi else s

/-- The scanline after the one in progress (R172). -/
def State.nextScanline (s : State) : Nat :=
  if s.scanline + 1 = s.variant.scanlinesPerFrame then 0 else s.scanline + 1

/-- The move to the next scanline, with the vertical reload at the PRERENDER to VISIBLE boundary (R172). -/
def advanceScanline (s : State) : State :=
  let s1 := State.clearLine { s with hblankDone := false, drawPhase := .background }
  let s2 := if s.scanline + 1 = s.variant.scanlinesPerFrame then verticalReload s1 else s1
  State.emit (.scanline s.nextScanline) { s2 with scanline := s.nextScanline, dot := 0 }

/-- Vblank entry: the flag is set, then NMI_EN is sampled (R172). -/
def enterVblank (s : State) : State :=
  let s1 := (s.setVblank true).emit (.vblank true)
  if s.nmiEn && !s.nmiSuppress then s1.armNmi else s1

/-- PRERENDER entry: the flags are cleared and an undelivered NMI is dropped (R172). -/
def enterPrerender (s : State) : State :=
  State.emit (.vblank false) { s.clearFlags.disarmNmi with nmiSuppress := false }

/-- The effect of the scanline event, its contract met (R172). -/
def scanlineEffect (s : State) : State :=
  let s1 := advanceScanline s
  let s2 := if s1.scanline = s1.variant.vblankFirstScanline then enterVblank s1 else s1
  if s2.scanline + 1 = s2.variant.scanlinesPerFrame then enterPrerender s2 else s2

/-- The scanline event; without an hblank since the previous one it is refused (R172, R183). -/
def scanlineEvent (s : State) : Result State Fault Refusal :=
  if s.hblankDone then .next (scanlineEffect s) else .refused .scanlineWithoutHblank

/-- EV_HBLANK (R173). -/
def execEvHblank (s : State) : Result State Fault Refusal := hblankEvent s

/-- EV_NMI (R174). -/
def execEvNmi (s : State) : Result State Fault Refusal := .next (nmiEvent s)

/-- EV_SCANLINE (R172). -/
def execEvScanline (s : State) : Result State Fault Refusal := scanlineEvent s

/-- The NMI timer counts a dot down while an NMI is scheduled (R175). -/
def countDown (s : State) : State :=
  if s.nmiArmed && decide (0 < s.nmiTimer) then { s with nmiTimer := s.nmiTimer - 1 } else s

/-- The dot advances, or the event due at the next dot happens (R175). -/
def advanceDot (s : State) : Result State Fault Refusal :=
  if s.dot + 1 = s.variant.dotsPerLine then scanlineEvent s
  else if s.dot + 1 = s.variant.hblankDot then hblankEvent s
  else .next { s with dot := s.dot + 1 }

/-- The NMI is delivered when its timer has run out (R175). -/
def deliverDue (s : State) : State := if s.nmiArmed && decide (s.nmiTimer = 0) then nmiEvent s else s

/-- `TICK1()`: the scanline or hblank event first, the NMI second (R175, R286). -/
def tick1 (s : State) : Result State Fault Refusal := andThen (advanceDot (countDown s)) fun t => .next (deliverDue t)

/-- `n` single ticks in a row (R116, R175). -/
def ticks : Nat → State → Result State Fault Refusal
  | 0, s => .next s
  | n + 1, s => andThen (tick1 s) (ticks n)

/-- TICK (R175). A tick whose event is refused refuses the whole operation (log 14). -/
def execTick (count : Nat) (s : State) : Result State Fault Refusal := ticks count s

/-! ### Next-fire values (R293) -/

/-- Dots until the hblank event of this scanline, if it has not happened. -/
def State.nextHblank (s : State) : Option Nat :=
  if s.hblankDone then Option.none else some (s.variant.hblankDot - s.dot)

/-- Dots until the next scanline event. -/
def State.nextScanlineDots (s : State) : Nat := s.variant.dotsPerLine - s.dot

/-- Dots until the scheduled NMI, if one is scheduled. -/
def State.nextNmi (s : State) : Option Nat := if s.nmiArmed then some s.nmiTimer else Option.none

end Sys2Proof.Machine
end

