-- ==== Sys2Proof/Machine/ReadPorts.lean ====
section
/-! DEFINITION. The eight port reads (R131, R140 to R147). Each ends with the common epilogue of R131: the returned
byte goes to the port latch. -/

namespace Sys2Proof.Machine

/-- A read of a write-only port returns the port latch and changes nothing else (R121, log 8). -/
def readLatch (s : State) : State := s.respond s.dataLatch

/-- RD_CONTROL0 (R140). -/
def execRdControl0 (s : State) : Result State Fault Refusal := .next (readLatch s)

/-- RD_CONTROL1 (R141). -/
def execRdControl1 (s : State) : Result State Fault Refusal := .next (readLatch s)

/-- RD_STATUS (R142): the value is sampled, then VBLANK and the toggle are cleared; a read in the race window
suppresses this frame's NMI. -/
def execRdStatus (s : State) : Result State Fault Refusal :=
  let s1 := { s.setVblank false with toggle := false }
  let s2 := if inRaceWindow s.variant s.scanline s.dot then { s1.disarmNmi with nmiSuppress := true } else s1
  .next (s2.respond s.statusValue)

/-- RD_SPRITE_ADDRESS (R143): the cursor is not readable. -/
def execRdSpriteAddress (s : State) : Result State Fault Refusal := .next (readLatch s)

/-- RD_SPRITE_DATA (R144): the byte at the cursor, which does not move. -/
def execRdSpriteData (s : State) : Result State Fault Refusal :=
  .next (s.respond (s.readByte .oam s.spriteAddress.toNat))

/-- RD_SCROLL (R145). -/
def execRdScroll (s : State) : Result State Fault Refusal := .next (readLatch s)

/-- RD_ADDRESS (R146). -/
def execRdAddress (s : State) : Result State Fault Refusal := .next (readLatch s)

/-- The returned byte of RD_DATA: the palette byte at once in the palette window, else the buffer (R147; that this also
decides the second read of `PEEK 0x3EFF` is log 18). -/
def State.dataReadValue (s : State) : Byte :=
  if Layout.paletteBase ≤ s.dataAddress then s.palRead s.dataAddress else s.bufferedData

/-- The prefetch of RD_DATA: the new buffer byte and the state after fetching it (R147). -/
def State.prefetch (s : State) : Byte × State :=
  if Layout.paletteBase ≤ s.dataAddress then (s.ntRead s.dataAddress, s) else vramRead s.dataAddress s

/-- RD_DATA (R147): the buffered value, or the palette byte; then the prefetch and the auto-increment. -/
def execRdData (s : State) : Result State Fault Refusal :=
  let s1 := { s.prefetch.2 with bufferedData := s.prefetch.1 }
  .next (s1.advanceAddress.respond s.dataReadValue)

end Sys2Proof.Machine
end

