-- ==== Sys2Proof/Machine/Reset.lean ====
section
/-! DEFINITION. RESET (R300), device start (R301, R302), and what stands outside the block and reads it: the
save-state collaborator (R63, R296) and the observer (R12). -/

namespace Sys2Proof.Machine

/-- `RESET()`: everything R300 writes; the memories, the framebuffer, the configuration and the histories stay. -/
def performReset (s : State) : State :=
  { s with
    control0 := 0
    control1 := 0
    status := 0
    spriteAddress := 0
    spriteData := 0
    scroll := 0
    address := 0
    data := 0
    toggle := false
    refreshData := 0
    refreshLatch := 0
    xFine := 0
    bufferedData := 0
    dataLatch := 0
    scanline := 0
    dot := 0
    drawPhase := .background
    nmiArmed := false
    nmiSuppress := false
    nmiTimer := 0
    hblankDone := false
    line := LineBuffers.cleared }

/-- RESET (R300): legal in any state, emits nothing. -/
def execReset (s : State) : Result State Fault Refusal := .next (performReset s)

/-- Device start (R301): VARIANT is checked, the pattern-data collaborator must be connected, the state is created
with power-on contents and RESET is performed. -/
def deviceStart (v : Variant) (patternConnected : Bool) : Result State Fault Refusal :=
  if ¬ v.Ok then .refused .badVariant
  else if patternConnected = false then .refused .noPatternCollaborator
  else .next (performReset { State.reset with variant := v })

/-- What must round-trip for deterministic replay: everything but the transient line buffers, which are dead between
operations (R63, R296). -/
def State.snapshot (s : State) : State := s.clearLine

/-- What an observer outside the block sees (R12). -/
structure Observation where
  reads : List Byte
  outputs : List OutputEvent
  fb : List (Nat × List Rgb)
  patternCalls : List PatternCall
deriving DecidableEq, Repr

/-- The observation of a state (R12). -/
def State.observe (s : State) : Observation := ⟨s.reads, s.outputs, s.fb, s.patternCalls⟩

end Sys2Proof.Machine
end

