-- ==== Sys2Proof/Machine/SidePorts.lean ====
section
/-! DEFINITION. The palette side port and the OAM DMA (R160 to R162). -/

namespace Sys2Proof.Machine

/-- PAL_RD (R160): returns the palette byte and touches nothing else, the port latch included. -/
def execPalRd (index : Nat) (s : State) : Result State Fault Refusal := .next (s.returnByte (s.palRead index))

/-- PAL_WR (R161). -/
def execPalWr (index : Nat) (d : Byte) (s : State) : Result State Fault Refusal := .next (s.palWrite index d)

/-- The OAM index byte `i` of a page lands at: `(regs[3] + i) mod 256` (R87, R162). -/
def dmaTarget (cursor : Byte) (i : Nat) : Nat := (cursor.toNat + i) % Layout.oamSize

/-- Byte `i` of a page is read from external memory and stored in OAM (R162). -/
def dmaByte (page : Byte) (i : Nat) (s : State) : State :=
  let r := extRead (page.toNat * 0x100 + i) s
  r.2.writeByte .oam (dmaTarget s.spriteAddress i) r.1

/-- The first `n` bytes of a page, in ascending order (R162). -/
def dmaCopy (page : Byte) : Nat → State → State
  | 0, s => s
  | n + 1, s => dmaByte page n (dmaCopy page n s)

/-- OAM_DMA (R162): 256 bytes, atomically, not subject to the sprite write limitation. -/
def execOamDma (page : Byte) (s : State) : Result State Fault Refusal := .next (dmaCopy page Layout.oamSize s)

end Sys2Proof.Machine
end

