-- ==== Sys2Proof/Machine/WritePorts.lean ====
section
/-! DEFINITION. The eight port writes (R130, R132 to R139). Each ends with the common epilogue of R130: the byte goes
to the slot (STATUS excepted) and to the port latch. -/

namespace Sys2Proof.Machine

/-- WR_CONTROL0 (R132): the base nametable bits go to the latch address; a cleared bit 7 cancels a scheduled NMI, a
set bit 7 arms nothing. -/
def execWrControl0 (d : Byte) (s : State) : Result State Fault Refusal :=
  let s1 := { s with control0 := d, refreshLatch := setNtField s.refreshLatch (ntBaseOf d) }
  let s2 := if d.getLsbD Layout.nmiEnBit then s1 else s1.disarmNmi
  .next { s2 with dataLatch := d }

/-- WR_CONTROL1 (R133). -/
def execWrControl1 (d : Byte) (s : State) : Result State Fault Refusal :=
  .next { s with control1 := d, dataLatch := d }

/-- WR_STATUS (R134): STATUS is not written by the bus. -/
def execWrStatus (d : Byte) (s : State) : Result State Fault Refusal :=
  .next { s with dataLatch := d }

/-- WR_SPRITE_ADDRESS (R135): sets the OAM cursor. -/
def execWrSpriteAddress (d : Byte) (s : State) : Result State Fault Refusal :=
  .next { s with spriteAddress := d, dataLatch := d }

/-- WR_SPRITE_DATA (R136): an allowed write stores at the cursor and advances it; an ignored one does neither. -/
def execWrSpriteData (d : Byte) (s : State) : Result State Fault Refusal :=
  let s1 := if s.oamWriteAllowed then
      { s.writeByte .oam s.spriteAddress.toNat d with spriteAddress := s.spriteAddress + 1 }
    else s
  .next { s1 with spriteData := d, dataLatch := d }

/-- WR_SCROLL (R137): the first write of a pair is horizontal, the second vertical. -/
def execWrScroll (d : Byte) (s : State) : Result State Fault Refusal :=
  let s1 := if s.toggle then
      { s with
        refreshLatch := setFineY (setCoarseY s.refreshLatch (bits d 3 5)) (bits d 0 3)
        toggle := false }
    else
      { s with refreshLatch := setCoarseX s.refreshLatch (bits d 3 5), xFine := bits d 0 3, toggle := true }
  .next { s1 with scroll := d, dataLatch := d }

/-- The latch address after the first ADDRESS write of a pair: `[13:8] <- d[5:0]`, `[14] <- 0` (R138). -/
def latchHigh (v : VAddr) (d : Byte) : VAddr := setBits (setBits v 8 (bits d 0 6)) 14 (0 : BitVec 1)

/-- The latch address after the second ADDRESS write of a pair: `[7:0] <- d` (R138). -/
def latchLow (v : VAddr) (d : Byte) : VAddr := setBits v 0 d

/-- WR_ADDRESS (R138): the first write of a pair is the high part; the second the low byte, and commits the latch
address into the running address. -/
def execWrAddress (d : Byte) (s : State) : Result State Fault Refusal :=
  let s1 := if s.toggle then
      { s with
        refreshLatch := latchLow s.refreshLatch d
        refreshData := latchLow s.refreshLatch d
        toggle := false }
    else
      { s with refreshLatch := latchHigh s.refreshLatch d, toggle := true }
  .next { s1 with address := d, dataLatch := d }

/-- WR_DATA (R139): a VRAM write at the running address, then the auto-increment. -/
def execWrData (d : Byte) (s : State) : Result State Fault Refusal :=
  let s1 := (vramWrite s.dataAddress d s).advanceAddress
  .next { s1 with data := d, dataLatch := d }

end Sys2Proof.Machine
end

