-- ==== Sys2Proof/Syntax.lean ====
section
/-! DEFINITION. The 24 operations of the opcode table (R119), one constructor per row. An operand is what the
operation's rule takes; address bits the encoding ignores are not part of an operation. -/

namespace Sys2Proof

/-- One operation of the block (R119). `d` is the byte of a write; `index` a palette index before mirroring,
`page` a DMA page, `count` a tick count (R118). -/
inductive Instr where
  | wrControl0 (d : Byte)
  | wrControl1 (d : Byte)
  | wrStatus (d : Byte)
  | wrSpriteAddress (d : Byte)
  | wrSpriteData (d : Byte)
  | wrScroll (d : Byte)
  | wrAddress (d : Byte)
  | wrData (d : Byte)
  | rdControl0
  | rdControl1
  | rdStatus
  | rdSpriteAddress
  | rdSpriteData
  | rdScroll
  | rdAddress
  | rdData
  | palWr (index : Nat) (d : Byte)
  | palRd (index : Nat)
  | oamDma (page : Byte)
  | evHblank
  | evNmi
  | evScanline
  | tick (count : Nat)
  | reset
deriving DecidableEq, Repr

/-- The mnemonic of R119. -/
def Instr.mnemonic : Instr → String
  | .wrControl0 _ => "WR_CONTROL0"
  | .wrControl1 _ => "WR_CONTROL1"
  | .wrStatus _ => "WR_STATUS"
  | .wrSpriteAddress _ => "WR_SPRITE_ADDRESS"
  | .wrSpriteData _ => "WR_SPRITE_DATA"
  | .wrScroll _ => "WR_SCROLL"
  | .wrAddress _ => "WR_ADDRESS"
  | .wrData _ => "WR_DATA"
  | .rdControl0 => "RD_CONTROL0"
  | .rdControl1 => "RD_CONTROL1"
  | .rdStatus => "RD_STATUS"
  | .rdSpriteAddress => "RD_SPRITE_ADDRESS"
  | .rdSpriteData => "RD_SPRITE_DATA"
  | .rdScroll => "RD_SCROLL"
  | .rdAddress => "RD_ADDRESS"
  | .rdData => "RD_DATA"
  | .palWr _ _ => "PAL_WR"
  | .palRd _ => "PAL_RD"
  | .oamDma _ => "OAM_DMA"
  | .evHblank => "EV_HBLANK"
  | .evNmi => "EV_NMI"
  | .evScanline => "EV_SCANLINE"
  | .tick _ => "TICK"
  | .reset => "RESET"

end Sys2Proof
end

