-- ==== Sys2Proof/Machine/Dispatch.lean ====
section
/-! DEFINITION. The dispatch: one arm per operation of the opcode table (R119). -/

namespace Sys2Proof.Machine

def exec (i : Instr) (s : State) : Host.Outcome State Fault Refusal :=
  match i with
  -- class PORT, writes
  | .wrControl0 d => Sys2Proof.Machine.execWrControl0 d s
  | .wrControl1 d => Sys2Proof.Machine.execWrControl1 d s
  | .wrStatus d => Sys2Proof.Machine.execWrStatus d s
  | .wrSpriteAddress d => Sys2Proof.Machine.execWrSpriteAddress d s
  | .wrSpriteData d => Sys2Proof.Machine.execWrSpriteData d s
  | .wrScroll d => Sys2Proof.Machine.execWrScroll d s
  | .wrAddress d => Sys2Proof.Machine.execWrAddress d s
  | .wrData d => Sys2Proof.Machine.execWrData d s
  -- class PORT, reads
  | .rdControl0 => Sys2Proof.Machine.execRdControl0 s
  | .rdControl1 => Sys2Proof.Machine.execRdControl1 s
  | .rdStatus => Sys2Proof.Machine.execRdStatus s
  | .rdSpriteAddress => Sys2Proof.Machine.execRdSpriteAddress s
  | .rdSpriteData => Sys2Proof.Machine.execRdSpriteData s
  | .rdScroll => Sys2Proof.Machine.execRdScroll s
  | .rdAddress => Sys2Proof.Machine.execRdAddress s
  | .rdData => Sys2Proof.Machine.execRdData s
  -- classes PAL and DMA
  | .palWr index d => Sys2Proof.Machine.execPalWr index d s
  | .palRd index => Sys2Proof.Machine.execPalRd index s
  | .oamDma page => Sys2Proof.Machine.execOamDma page s
  -- classes EVENT, TICK and RESET
  | .evHblank => Sys2Proof.Machine.execEvHblank s
  | .evNmi => Sys2Proof.Machine.execEvNmi s
  | .evScanline => Sys2Proof.Machine.execEvScanline s
  | .tick count => Sys2Proof.Machine.execTick count s
  | .reset => Sys2Proof.Machine.execReset s

end Sys2Proof.Machine
end

