-- ==== Sys2Proof/WellFormed.lean ====
section
/-! DEFINITION. Well-formedness of an operation as syntax: an operand that is a number lies in the range its field
of the transaction word admits (R118). Bytes are in range by their type. -/

namespace Sys2Proof

/-- The operand ranges of R116 and R118: a palette index is `ADDR mod 32`, a tick count is 16 bits. -/
def Instr.wellFormed : Instr → Bool
  | .wrControl0 _ => true
  | .wrControl1 _ => true
  | .wrStatus _ => true
  | .wrSpriteAddress _ => true
  | .wrSpriteData _ => true
  | .wrScroll _ => true
  | .wrAddress _ => true
  | .wrData _ => true
  | .rdControl0 => true
  | .rdControl1 => true
  | .rdStatus => true
  | .rdSpriteAddress => true
  | .rdSpriteData => true
  | .rdScroll => true
  | .rdAddress => true
  | .rdData => true
  | .palWr index _ => decide (index < 32)
  | .palRd index => decide (index < 32)
  | .oamDma _ => true
  | .evHblank => true
  | .evNmi => true
  | .evScanline => true
  | .tick count => decide (count < 65536)
  | .reset => true

end Sys2Proof
end

