-- ==== Sys2Proof/Decode.lean ====
section
/-! DEFINITION. The decoder of the transaction word, total on all words and refusing by name (R110 to R124), the
opcode map of R119, and the encoder written from the same formats. -/

namespace Sys2Proof

/-! ### The fields of the transaction word (R110) -/

/-- CLASS, bits 31:28. -/
def wordClass (w : Word) : BitVec 4 := w.extractLsb' 28 4

/-- RNW, bit 27: 1 is a read. -/
def wordRnw (w : Word) : Bool := w.getLsbD 27

/-- ZERO, bits 26:24: must be 0. -/
def wordZero (w : Word) : BitVec 3 := w.extractLsb' 24 3

/-- ADDR, bits 23:8. -/
def wordAddr (w : Word) : BitVec 16 := w.extractLsb' 8 16

/-- DATA, bits 7:0. -/
def wordData (w : Word) : Byte := w.extractLsb' 0 8

/-- A transaction word from its fields, the most significant first (R110). -/
def mkWord (cls : BitVec 4) (rnw : Bool) (zero : BitVec 3) (addr : BitVec 16) (data : Byte) : Word :=
  cls ++ BitVec.ofBool rnw ++ zero ++ addr ++ data

/-! ### Operand assembly (R118) -/

/-- Port offset: `ADDR mod 8` (R71, R112). -/
def portOffset (addr : BitVec 16) : Nat := addr.toNat % 8

/-- Palette index: `ADDR mod 32`, before mirroring (R113). -/
def paletteIndex (addr : BitVec 16) : Nat := addr.toNat % 32

/-- DMA page: `ADDR[7:0]` (R114). -/
def dmaPage (addr : BitVec 16) : Byte := addr.setWidth 8

/-! ### The decoder -/

/-- Why a word spells no operation (R122, R123). -/
inductive DecodeError where
  /-- CLASS in 6 .. 15 (R122) -/
  | reservedClass
  /-- ZERO is not 0, or RNW = 1 in a class that has no read (R123) -/
  | reservedField
  /-- class EVENT with ADDR not 0, 1 or 2 (R123) -/
  | badEventCode
deriving DecidableEq, Repr

/-- The eight port writes, by offset (R112, R119). -/
def decodePortWrite (port : Nat) (d : Byte) : Instr :=
  match port with
  | 0 => .wrControl0 d
  | 1 => .wrControl1 d
  | 2 => .wrStatus d
  | 3 => .wrSpriteAddress d
  | 4 => .wrSpriteData d
  | 5 => .wrScroll d
  | 6 => .wrAddress d
  | _ => .wrData d

/-- The eight port reads, by offset (R112, R119). -/
def decodePortRead (port : Nat) : Instr :=
  match port with
  | 0 => .rdControl0
  | 1 => .rdControl1
  | 2 => .rdStatus
  | 3 => .rdSpriteAddress
  | 4 => .rdSpriteData
  | 5 => .rdScroll
  | 6 => .rdAddress
  | _ => .rdData

/-- Class EVENT: the event code is the whole of ADDR (R115). -/
def decodeEvent (code : Nat) : Except DecodeError Instr :=
  match code with
  | 0 => .ok .evHblank
  | 1 => .ok .evNmi
  | 2 => .ok .evScanline
  | _ => .error .badEventCode

/-- The decoder. A reserved class is reported before a reserved field, a reserved field before a bad event code
(DESIGN CHOICE, safe, log 11: the spec orders no reasons, and the word is refused whichever is given). -/
def decode (w : Word) : Except DecodeError Instr :=
  if 6 ≤ (wordClass w).toNat then .error .reservedClass
  else if wordZero w ≠ 0 then .error .reservedField
  else if wordRnw w = true ∧ 2 ≤ (wordClass w).toNat then .error .reservedField
  else match (wordClass w).toNat with
    | 0 => .ok (if wordRnw w then decodePortRead (portOffset (wordAddr w))
                else decodePortWrite (portOffset (wordAddr w)) (wordData w))
    | 1 => .ok (if wordRnw w then .palRd (paletteIndex (wordAddr w))
                else .palWr (paletteIndex (wordAddr w)) (wordData w))
    | 2 => .ok (.oamDma (dmaPage (wordAddr w)))
    | 3 => decodeEvent (wordAddr w).toNat
    | 4 => .ok (.tick (wordAddr w).toNat)
    | _ => .ok .reset

/-! ### The encoder -/

/-- The word of an operation, every ignored bit 0 (R112 to R117). -/
def encode : Instr → Word
  | .wrControl0 d => mkWord 0 false 0 0 d
  | .wrControl1 d => mkWord 0 false 0 1 d
  | .wrStatus d => mkWord 0 false 0 2 d
  | .wrSpriteAddress d => mkWord 0 false 0 3 d
  | .wrSpriteData d => mkWord 0 false 0 4 d
  | .wrScroll d => mkWord 0 false 0 5 d
  | .wrAddress d => mkWord 0 false 0 6 d
  | .wrData d => mkWord 0 false 0 7 d
  | .rdControl0 => mkWord 0 true 0 0 0
  | .rdControl1 => mkWord 0 true 0 1 0
  | .rdStatus => mkWord 0 true 0 2 0
  | .rdSpriteAddress => mkWord 0 true 0 3 0
  | .rdSpriteData => mkWord 0 true 0 4 0
  | .rdScroll => mkWord 0 true 0 5 0
  | .rdAddress => mkWord 0 true 0 6 0
  | .rdData => mkWord 0 true 0 7 0
  | .palWr index d => mkWord 1 false 0 (BitVec.ofNat 16 index) d
  | .palRd index => mkWord 1 true 0 (BitVec.ofNat 16 index) 0
  | .oamDma page => mkWord 2 false 0 (page.setWidth 16) 0
  | .evHblank => mkWord 3 false 0 0 0
  | .evNmi => mkWord 3 false 0 1 0
  | .evScanline => mkWord 3 false 0 2 0
  | .tick count => mkWord 4 false 0 (BitVec.ofNat 16 count) 0
  | .reset => mkWord 5 false 0 0 0

/-! ### The opcode map (R119) -/

/-- One row of the opcode map. -/
structure OpcodeRow where
  mnemonic : String
  pattern : Word
  mask : Word
deriving DecidableEq, Repr

/-- A word is matched by a row when `(W and mask) = match` (R119). -/
def OpcodeRow.matchesWord (r : OpcodeRow) (w : Word) : Bool := w &&& r.mask == r.pattern

/-- The rows of class PORT (R119). -/
def portRows : List OpcodeRow :=
  [⟨"WR_CONTROL0", 0x00000000, 0xFF000700⟩, ⟨"WR_CONTROL1", 0x00000100, 0xFF000700⟩,
   ⟨"WR_STATUS", 0x00000200, 0xFF000700⟩, ⟨"WR_SPRITE_ADDRESS", 0x00000300, 0xFF000700⟩,
   ⟨"WR_SPRITE_DATA", 0x00000400, 0xFF000700⟩, ⟨"WR_SCROLL", 0x00000500, 0xFF000700⟩,
   ⟨"WR_ADDRESS", 0x00000600, 0xFF000700⟩, ⟨"WR_DATA", 0x00000700, 0xFF000700⟩,
   ⟨"RD_CONTROL0", 0x08000000, 0xFF000700⟩, ⟨"RD_CONTROL1", 0x08000100, 0xFF000700⟩,
   ⟨"RD_STATUS", 0x08000200, 0xFF000700⟩, ⟨"RD_SPRITE_ADDRESS", 0x08000300, 0xFF000700⟩,
   ⟨"RD_SPRITE_DATA", 0x08000400, 0xFF000700⟩, ⟨"RD_SCROLL", 0x08000500, 0xFF000700⟩,
   ⟨"RD_ADDRESS", 0x08000600, 0xFF000700⟩, ⟨"RD_DATA", 0x08000700, 0xFF000700⟩]

/-- The rows of the other classes (R119). -/
def otherRows : List OpcodeRow :=
  [⟨"PAL_WR", 0x10000000, 0xFF000000⟩, ⟨"PAL_RD", 0x18000000, 0xFF000000⟩,
   ⟨"OAM_DMA", 0x20000000, 0xFF000000⟩, ⟨"EV_HBLANK", 0x30000000, 0xFFFFFF00⟩,
   ⟨"EV_NMI", 0x30000100, 0xFFFFFF00⟩, ⟨"EV_SCANLINE", 0x30000200, 0xFFFFFF00⟩,
   ⟨"TICK", 0x40000000, 0xFF000000⟩, ⟨"RESET", 0x50000000, 0xFF000000⟩]

/-- The opcode map: 24 rows (R119). -/
def opcodeMap : List OpcodeRow := portRows ++ otherRows

/-! ### The host's question -/

/-- The operation the decoder reads from a word of `nbits` bits, numbered as the opcode table numbers them; the
bits above `nbits` are 0. The word is one 32-bit unit with no byte order (R88, R110). -/
def decodeTableWord (nbits w : Nat) : Option Instr :=
  match decode (BitVec.ofNat 32 (w % 2 ^ nbits)) with
  | .ok i => some i
  | .error _ => Option.none

end Sys2Proof
end

