-- ==== Sys2Proof/Machine/Fetch.lean ====
section
/-! DEFINITION. Fetching the next operation: the head of the words presented and not yet performed (log 1). -/

namespace Sys2Proof.Machine

/-- The refusal of a word that spells no operation (R124). -/
def refusalOf : DecodeError → Refusal
  | .reservedClass => .reservedClass
  | .reservedField => .reservedField
  | .badEventCode => .badEventCode

/-- The state once its next operation has been taken from the presented words. -/
def State.takeNext (s : State) : State := { s with pending := s.pending.tail }

/-- The state with one more word presented, to be performed next. -/
def State.present (s : State) (w : Word) : State := { s with pending := w :: s.pending }

/-- A transaction word from a number of `nbits` bits, the bits above them 0. -/
def wordOfBits (nbits w : Nat) : Word := BitVec.ofNat 32 (w % 2 ^ nbits)

end Sys2Proof.Machine
end

