-- ==== Sys2Proof/Machine/Step.lean ====
section
/-! DEFINITION. One step: the operation presented next is decoded and performed, atomically (R10, R93). -/

namespace Sys2Proof.Machine

/-- A word that spells no operation is refused and changes nothing (R124, R298); with no operation pending the
model stops (log 1). -/
def step (s : State) : Host.Outcome State Fault Refusal :=
  match s.pending.head? with
  | Option.none => .fault .noOperationPending
  | some w =>
    match decode w with
    | .error e => .refused (refusalOf e)
    | .ok i => exec i s.takeNext

/-- `s` with the operation word `w` presented, so that the next step performs it (log 1). -/
def State.withFetchWord (s : State) (nbits w : Nat) : State := s.present (wordOfBits nbits w)

end Sys2Proof.Machine
end

