-- ==== Sys2Proof/Safety.lean ====
section
/-! DEFINITION. What holds of the block between operations: the legal states (Inv), and the frame vocabulary in which
statements say what an operation leaves alone. -/

namespace Sys2Proof.Machine

/-- The transient buffers as R50 to R53 and R260 describe them. -/
structure LineOk (l : LineBuffers) : Prop where
  /-- one entry per pixel (R50, R51, R53) -/
  opaqueLength : l.bgOpaque.length = Layout.screenWidth
  claimedLength : l.sprClaimed.length = Layout.screenWidth
  pixLength : l.bgPix.length = Layout.screenWidth
  groupLength : l.bgGroup.length = Layout.screenWidth
  indexLength : l.outIdx.length = Layout.screenWidth
  /-- a background pixel is opaque exactly when its colour index is not 0 (R211) -/
  opaqueIsPix : l.bgOpaque = l.bgPix.map (· != 0)
  /-- `sel_count` is 0 .. 8 (R52) -/
  slotCount : l.sprites.length ≤ Layout.spritesPerLine
  /-- the selected sprites are OAM entries in ascending order (R235) -/
  slotsRise : l.sprites.Pairwise (fun a b => a.sel < b.sel)
  slotsInOam : ∀ k ∈ l.sprites, k.sel < Layout.oamEntries
  /-- the values 0x10, 0x14, 0x18, 0x1C are never produced (R260) -/
  noSpriteColourZero : ∀ i ∈ l.outIdx, ¬ (16 ≤ i.toNat ∧ i.toNat % 4 = 0)

/-- The memories in canonical form, with only addresses the spec gives them (R44 to R48, R70). -/
structure MemoriesOk (s : State) : Prop where
  nametables : Memory.wf (4 * Layout.bankSize) s.ntRam
  palette : Memory.wf Layout.paletteSize s.paletteRam
  /-- only the 28 cells that mirror to themselves are stored (R45) -/
  paletteMirrored : ∀ c ∈ s.paletteRam, palMirror c.1 = c.1
  oam : Memory.wf Layout.oamSize s.oam
  pattern : Memory.wf Layout.patternSize s.chr
  external : Memory.wf Layout.externalSize s.ext
  framebuffer : Cells.Canonical Layout.visibleLines s.fb
  rowLength : ∀ r ∈ s.fb, r.2.length = Layout.screenWidth

/-- The sequencer position in its ranges, and the hblank event taken exactly from its dot on (R40, R41, R59, R171). -/
structure PositionOk (s : State) : Prop where
  scanlineInFrame : s.scanline < s.variant.scanlinesPerFrame
  dotInLine : s.dot < s.variant.dotsPerLine
  hblankAtDot : s.hblankDone = true ↔ s.variant.hblankDot ≤ s.dot
  /-- SPRITE only between the rendering of a visible scanline and the next scanline event (R186) -/
  spritePhase : s.drawPhase = .sprite → s.hblankDone = true ∧ s.scanline < Layout.visibleLines

/-- The interrupt state (R56, R57, R58, R283) and the flags (R24, R181). -/
structure InterruptOk (s : State) : Prop where
  timerBound : s.nmiTimer ≤ s.variant.nmiDelayDots
  timerIdle : s.nmiArmed = false → s.nmiTimer = 0
  armedEnabled : s.nmiArmed = true → s.nmiEn = true
  armedNotSuppressed : s.nmiArmed = true → s.nmiSuppress = false
  armedInVblank : s.nmiArmed = true → s.phase = .vblank
  suppressNearVblank : s.nmiSuppress = true →
    s.variant.vblankFirstScanline ≤ s.scanline + 1 ∧ s.scanline + 1 < s.variant.scanlinesPerFrame
  flagInVblank : s.vblankFlag = true → s.phase = .vblank
  /-- bits 4:0 of the STATUS slot are always 0 (R24) -/
  statusLow : bits s.status 0 5 = 0

/-- A legal state of the block between two operations. -/
structure Inv (s : State) : Prop where
  variantOk : s.variant.Ok
  position : PositionOk s
  interrupt : InterruptOk s
  memories : MemoriesOk s
  line : LineOk s.line

/-- The NMI strobes since the last vblank entry in an output history (R184, R290). -/
def nmisSinceVblank (history : List OutputEvent) : Nat :=
  (history.reverse.takeWhile (· != .vblank true)).count .nmi

/-! ### The vocabulary of statements -/

/-- Every byte of the block's memories reads as before. -/
def BytesKept (s t : State) : Prop := ∀ sp a, t.readByte sp a = s.readByte sp a

/-- Every byte of the block's memories but one reads as before. -/
def BytesKeptBut (space : Space) (addr : Nat) (s t : State) : Prop :=
  ∀ sp a, sp ≠ space ∨ a ≠ addr → t.readByte sp a = s.readByte sp a

/-- Every pixel of the framebuffer reads as before. -/
def PixelsKept (s t : State) : Prop := ∀ y x, t.pixel y x = s.pixel y x

/-- Nothing stored: every byte and every pixel reads as before. -/
def MemoryKept (s t : State) : Prop := BytesKept s t ∧ PixelsKept s t

/-- The closed pattern model (R47, R90), its array holding byte `b p` at every pattern address. -/
def ClosedPattern (s : State) (b : Nat → Byte) : Prop :=
  s.patternModel = .closedModel ∧ ∀ p < Layout.patternSize, s.chrByte p = b p

/-- The scroll position a visible line starts from: after the horizontal reload if rendering is enabled (R177, R179). -/
def lineStart (s : State) : VAddr :=
  if s.renderingEnabled then reloadHorizontal s.refreshData s.refreshLatch else s.refreshData

/-- The nametable and the column of tile column `col` on a line that starts at `v`: past column 31 the horizontally
adjacent nametable (R208). -/
def screenColumn (v : VAddr) (col : Nat) : Nat × Nat :=
  (if (coarseX v).toNat + col < 32 then (ntField v).toNat else (ntField v).toNat / 2 * 2 + (1 - (ntField v).toNat % 2),
    ((coarseX v).toNat + col) % 32)

/-- The tile number of tile column `col` on a line that starts at `v` (R202). -/
def State.columnTile (s : State) (v : VAddr) (col : Nat) : Nat :=
  (s.ntRead (0x2000 + (screenColumn v col).1 * 1024 + (coarseY v).toNat * 32 + (screenColumn v col).2)).toNat

/-- The palette group of tile column `col` on a line that starts at `v` (R203, R204). -/
def State.columnGroup (s : State) (v : VAddr) (col : Nat) : Nat :=
  (s.ntRead (0x2000 + (screenColumn v col).1 * 1024 + 0x3C0 + (coarseY v).toNat / 4 * 8 + (screenColumn v col).2 / 4)).toNat /
    2 ^ ((coarseY v).toNat / 2 % 2 * 4 + (screenColumn v col).2 / 2 % 2 * 2) % 4

/-- The address of the plane 0 byte of tile column `col` on a line that starts at `v` (R205). -/
def State.columnAddress (s : State) (v : VAddr) (col : Nat) : Nat :=
  (if s.control0.getLsbD 4 then 0x1000 else 0) + s.columnTile v col * 16 + (fineY v).toNat

/-- What the collaborator observes of tile column `col`: plane 0, then plane 1, the hint the group (R90, R200, R205). -/
def State.tileCalls (s : State) (v : VAddr) (col : Nat) : List PatternCall :=
  [.read .tile .background (s.columnAddress v col) (BitVec.ofNat 2 (s.columnGroup v col)),
   .read .tile .background (s.columnAddress v col + 8) (BitVec.ofNat 2 (s.columnGroup v col))]

/-- What the collaborator observes of a selected sprite: plane 0, then plane 1, the hint 0 (R90, R237). -/
def State.spriteCalls (s : State) (k : SpriteSlot) : List PatternCall :=
  [.read .sprite .sprite (s.spritePatternAddress s.scanline k) 0,
   .read .sprite .sprite (s.spritePatternAddress s.scanline k + 8) 0]

/-- Operations performed one after another. -/
def runOps : List Instr → State → Result State Fault Refusal
  | [], s => .next s
  | i :: rest, s => andThen (exec i s) (runOps rest)

end Sys2Proof.Machine
end

