-- ==== Sys2Proof/Certificates/Slice0/Obligations.lean ====
section
/-! DEFINITION. The statements for the provers. A docstring names the rule a statement formalises, and where a clause
rests on a choice the spec marks as its own (D<n> of 92_eei_decisions.md) or on a log entry of this model. -/

open Sys2Proof Sys2Proof.Machine

/-! ### Encoding and steps -/

/-- Every operation, at every operand its word admits, is what the decoder reads from its encoding (formats of R110
to R119; the word is the spec's own, D1). -/
def Obligations.DecodeEncodeRoundTrip : Prop :=
  ∀ i : Instr, i.wellFormed = true → decode (encode i) = .ok i

/-- The decoder and the opcode map of R119 agree on every word: a decoded word is matched by exactly one row, that of
its mnemonic, and a refused word by none (D1, D50). -/
def Obligations.OpcodeMapAgreesWithDecoder : Prop :=
  ∀ w : Word,
    (∀ i, decode w = .ok i → (opcodeMap.filter (·.matchesWord w)).map (·.mnemonic) = [i.mnemonic]) ∧
    (∀ e, decode w = .error e → opcodeMap.filter (·.matchesWord w) = [])

/-- Words written out from the formats decode to the operations they stand for (vectors E1 to E24; D1, D50). -/
def Obligations.DecoderReadsWrittenWords : Prop :=
  decode 0x00FFFF41 = .ok (.wrData 0x41) ∧ decode 0x0000037C = .ok (.wrSpriteAddress 0x7C) ∧
  decode 0x082002AB = .ok .rdStatus ∧ decode 0x1000302A = .ok (.palWr 0x10 0x2A) ∧
  decode 0x18001F00 = .ok (.palRd 0x1F) ∧ decode 0x20120277 = .ok (.oamDma 0x02) ∧
  decode 0x30000200 = .ok .evScanline ∧ decode 0x40015500 = .ok (.tick 341) ∧ decode 0x5000FFFF = .ok .reset ∧
  decode 0x30000300 = .error .badEventCode ∧ decode 0x60000000 = .error .reservedClass ∧
  decode 0x28000200 = .error .reservedField

/-- A step performs the operation its presented word decodes to, on the state with that word taken (R10, R93; that
words are presented in a list is the model's choice, log 1), and a word put by `withFetchWord` is the next. -/
def Obligations.StepPerformsThePresentedOperation : Prop :=
  (∀ (s : State) (w : Word) (rest : List Word) (i : Instr), s.pending = w :: rest → decode w = .ok i →
    step s = exec i { s with pending := rest }) ∧
  (∀ (s : State) (w : Word) (i : Instr), decode w = .ok i → step (s.withFetchWord 32 w.toNat) = exec i s)

/-- A word that spells no operation is refused by its reason (R122, R123, R124; D50; the order of reasons is log 11). -/
def Obligations.UnspelledWordsAreRefused : Prop :=
  ∀ (s : State) (w : Word) (rest : List Word), s.pending = w :: rest →
    (6 ≤ (wordClass w).toNat → step s = .refused .reservedClass) ∧
    ((wordClass w).toNat < 6 → wordZero w ≠ 0 → step s = .refused .reservedField) ∧
    (2 ≤ (wordClass w).toNat → (wordClass w).toNat < 6 → wordRnw w = true → step s = .refused .reservedField) ∧
    ((wordClass w).toNat = 3 → wordZero w = 0 → wordRnw w = false → 3 ≤ (wordAddr w).toNat →
      step s = .refused .badEventCode)

/-- No operation faults, in any state; only the events and TICK are ever refused, by the reasons of R183 (R280; the
refusals are D50, D56). -/
def Obligations.OperationsNeverFault : Prop :=
  ∀ (i : Instr) (s : State), (∀ f, exec i s ≠ .fault f) ∧
    (∀ r, exec i s = .refused r → (i = .evHblank ∧ r = .hblankTwice) ∨ (i = .evScanline ∧ r = .scanlineWithoutHblank) ∨
      ((∃ n, i = .tick n) ∧ (r = .hblankTwice ∨ r = .scanlineWithoutHblank)))

/-! ### Port writes -/

/-- WR_CONTROL0 (R132): the slot, the base nametable bits of the latch address, the cancelled NMI, and nothing else;
a set NMI_EN arms nothing. Rests on D4, D8, D9, D12. -/
def Obligations.WriteControl0 : Prop :=
  ∀ (d : Byte) (s : State), ∃ t, exec (.wrControl0 d) s = .next t ∧
    t = { s with control0 := d, dataLatch := d, refreshLatch := t.refreshLatch, nmiArmed := t.nmiArmed, nmiTimer := t.nmiTimer } ∧
    ntField t.refreshLatch = d.setWidth 2 ∧ coarseX t.refreshLatch = coarseX s.refreshLatch ∧
    coarseY t.refreshLatch = coarseY s.refreshLatch ∧ fineY t.refreshLatch = fineY s.refreshLatch ∧
    (d.getLsbD 7 = false → t.nmiArmed = false ∧ t.nmiTimer = 0) ∧
    (d.getLsbD 7 = true → t.nmiArmed = s.nmiArmed ∧ t.nmiTimer = s.nmiTimer) ∧ MemoryKept s t

/-- WR_CONTROL1, WR_STATUS, WR_SPRITE_ADDRESS (R133, R134, R135): the slot (STATUS is not written by the bus) and the
port latch, nothing else. Rests on D8. -/
def Obligations.PlainPortWrites : Prop :=
  ∀ (d : Byte) (s : State),
    (∃ t, exec (.wrControl1 d) s = .next t ∧ t = { s with control1 := d, dataLatch := d } ∧ MemoryKept s t) ∧
    (∃ t, exec (.wrStatus d) s = .next t ∧ t = { s with dataLatch := d } ∧ t.status = s.status ∧ MemoryKept s t) ∧
    (∃ t, exec (.wrSpriteAddress d) s = .next t ∧ t = { s with spriteAddress := d, dataLatch := d } ∧ MemoryKept s t)

/-- WR_SPRITE_DATA (R136, R149): outside the limitation window the byte is stored at the cursor, which advances modulo
256; inside it neither happens; the slot and the port latch take the byte either way. Rests on D8, D19, D20. -/
def Obligations.WriteSpriteData : Prop :=
  ∀ (d : Byte) (s : State), ∃ t, exec (.wrSpriteData d) s = .next t ∧
    t = { s with spriteData := d, dataLatch := d, spriteAddress := t.spriteAddress, oam := t.oam } ∧
    ((s.variant.spriteWriteLimit = false ∨ 239 < s.scanline) →
      t.readByte .oam s.spriteAddress.toNat = d ∧ BytesKeptBut .oam s.spriteAddress.toNat s t ∧
      t.spriteAddress.toNat = (s.spriteAddress.toNat + 1) % 256) ∧
    ((s.variant.spriteWriteLimit = true ∧ s.scanline ≤ 239) →
      BytesKept s t ∧ t.spriteAddress = s.spriteAddress) ∧ PixelsKept s t

/-- WR_SCROLL (R137): the first write of a pair sets coarse_x and fine-x, the second coarse_y and fine_y, of the latch
address only; the toggle flips. Rests on D8, D9, D10. -/
def Obligations.WriteScroll : Prop :=
  ∀ (d : Byte) (s : State), ∃ t, exec (.wrScroll d) s = .next t ∧
    t = { s with scroll := d, dataLatch := d, toggle := !s.toggle, xFine := t.xFine, refreshLatch := t.refreshLatch } ∧
    ntField t.refreshLatch = ntField s.refreshLatch ∧
    (s.toggle = false → (coarseX t.refreshLatch).toNat = d.toNat / 8 ∧ t.xFine.toNat = d.toNat % 8 ∧
      coarseY t.refreshLatch = coarseY s.refreshLatch ∧ fineY t.refreshLatch = fineY s.refreshLatch) ∧
    (s.toggle = true → (coarseY t.refreshLatch).toNat = d.toNat / 8 ∧ (fineY t.refreshLatch).toNat = d.toNat % 8 ∧
      coarseX t.refreshLatch = coarseX s.refreshLatch ∧ t.xFine = s.xFine) ∧ MemoryKept s t

/-- WR_ADDRESS (R138): the first write of a pair gives bits 13:8 of the latch address and clears bit 14, the second
gives bits 7:0 and commits all 15 bits. Rests on D8, D11. -/
def Obligations.WriteAddress : Prop :=
  ∀ (d : Byte) (s : State), ∃ t, exec (.wrAddress d) s = .next t ∧
    t = { s with address := d, dataLatch := d, toggle := !s.toggle, refreshLatch := t.refreshLatch, refreshData := t.refreshData } ∧
    (s.toggle = false → t.refreshLatch.toNat = d.toNat % 64 * 256 + s.refreshLatch.toNat % 256 ∧
      t.refreshData = s.refreshData) ∧
    (s.toggle = true → t.refreshLatch.toNat = s.refreshLatch.toNat / 256 * 256 + d.toNat ∧
      t.refreshData = t.refreshLatch) ∧ MemoryKept s t

/-- A pair of ADDRESS writes sets the 14-bit address of the DATA port, high byte first, whatever the latch held
(R138, vectors Q4 and Q5; D11). -/
def Obligations.AddressPairSetsTheAddress : Prop :=
  ∀ (hi lo : Byte) (s : State), s.toggle = false → ∃ t, runOps [.wrAddress hi, .wrAddress lo] s = .next t ∧
    t.dataAddress = hi.toNat % 64 * 256 + lo.toNat ∧ t.refreshData.toNat = t.dataAddress ∧
    t.refreshLatch = t.refreshData ∧ t.toggle = false

/-- WR_DATA (R139): the byte goes where the resolver maps the 14-bit running address, no other byte of the block
changes, a pattern address is handed to the collaborator, whose array takes the byte in the closed model if CHR_WRITABLE,
and the address advances by 1 or 32 modulo 2^15. Rests on D4, D8, D13, D14, D16; the two models are log 5. -/
def Obligations.WriteData : Prop :=
  ∀ (d : Byte) (s : State), ∃ t, exec (.wrData d) s = .next t ∧
    t = { s with
      data := d, dataLatch := d, refreshData := t.refreshData, ntRam := t.ntRam, paletteRam := t.paletteRam
      chr := t.chr, patternCalls := t.patternCalls } ∧
    t.refreshData.toNat = (s.refreshData.toNat + (if s.control0.getLsbD 2 then 32 else 1)) % 32768 ∧
    (∀ sp a, (resolve s.variant.mirroring (s.refreshData.toNat % 16384)).cell = some (sp, a) →
      t.readByte sp a = d ∧ BytesKeptBut sp a s t ∧ t.chr = s.chr ∧ t.patternCalls = s.patternCalls) ∧
    (∀ p, resolve s.variant.mirroring (s.refreshData.toNat % 16384) = .pattern p →
      BytesKept s t ∧ t.patternCalls = s.patternCalls ++ [.write p d] ∧
      (s.patternModel = .closedModel ∧ s.variant.chrWritable = true →
        ∀ q, t.chrByte q = if q = p then d else s.chrByte q) ∧
      (¬ (s.patternModel = .closedModel ∧ s.variant.chrWritable = true) → t.chr = s.chr)) ∧ PixelsKept s t

/-! ### Port reads -/

/-- RD_CONTROL0, RD_CONTROL1, RD_SPRITE_ADDRESS, RD_SCROLL, RD_ADDRESS (R140, R141, R143, R145, R146): the port latch
is returned and nothing changes (D8, log 8). -/
def Obligations.ReadsOfWriteOnlyPorts : Prop :=
  ∀ (s : State), ∀ i ∈ [Instr.rdControl0, .rdControl1, .rdSpriteAddress, .rdScroll, .rdAddress],
    ∃ t, exec i s = .next t ∧ t = { s with reads := s.reads ++ [s.dataLatch] } ∧ MemoryKept s t

/-- RD_STATUS (R142, R148): the three flags above the security value or the port latch are returned; VBLANK and the
toggle are cleared, the other flags stay; in the race window this frame's NMI is suppressed, elsewhere it is left
alone. Rests on D6, D7, D8, D25, D51. -/
def Obligations.ReadStatus : Prop :=
  ∀ (s : State), ∃ (t : State) (r : Byte), exec .rdStatus s = .next t ∧
    t = { s with
      status := t.status, toggle := false, dataLatch := r, reads := s.reads ++ [r]
      nmiArmed := t.nmiArmed, nmiSuppress := t.nmiSuppress, nmiTimer := t.nmiTimer } ∧
    (∀ b, 5 ≤ b → r.getLsbD b = s.status.getLsbD b) ∧
    (∀ b, b < 5 → r.getLsbD b =
      if s.variant.securityValue = 0 then s.dataLatch.getLsbD b else s.variant.securityValue.getLsbD b) ∧
    t.status.getLsbD 7 = false ∧ (∀ b, b < 7 → t.status.getLsbD b = s.status.getLsbD b) ∧
    (((s.scanline = s.variant.vblankFirstScanline ∧ s.dot ≤ s.variant.nmiRaceWindow) ∨
        (s.scanline + 1 = s.variant.vblankFirstScanline ∧ s.variant.dotsPerLine ≤ s.dot + s.variant.nmiRaceWindow)) →
      t.nmiSuppress = true ∧ t.nmiArmed = false ∧ t.nmiTimer = 0) ∧
    (¬ ((s.scanline = s.variant.vblankFirstScanline ∧ s.dot ≤ s.variant.nmiRaceWindow) ∨
        (s.scanline + 1 = s.variant.vblankFirstScanline ∧ s.variant.dotsPerLine ≤ s.dot + s.variant.nmiRaceWindow)) →
      t.nmiSuppress = s.nmiSuppress ∧ t.nmiArmed = s.nmiArmed ∧ t.nmiTimer = s.nmiTimer) ∧ MemoryKept s t

/-- RD_SPRITE_DATA (R144): the OAM byte at the cursor, which does not move. Rests on D8, D19. -/
def Obligations.ReadSpriteData : Prop :=
  ∀ (s : State), ∃ (t : State) (r : Byte), exec .rdSpriteData s = .next t ∧
    r = s.readByte .oam s.spriteAddress.toNat ∧ t = { s with dataLatch := r, reads := s.reads ++ [r] } ∧ MemoryKept s t

/-- RD_DATA (R147): in the palette window the palette byte at once, with the nametable byte underneath prefetched;
elsewhere the buffer, with the addressed byte prefetched, in the closed pattern model the array's; then the address
advances. Nothing is stored. Rests on D4, D8, D13, D14, D17; the draw of the open model is log 5. -/
def Obligations.ReadData : Prop :=
  ∀ (s : State), ∃ (t : State) (r : Byte), exec .rdData s = .next t ∧
    t = { s with
      bufferedData := t.bufferedData, refreshData := t.refreshData, dataLatch := r, reads := s.reads ++ [r]
      patternCalls := t.patternCalls, draws := t.draws } ∧
    t.refreshData.toNat = (s.refreshData.toNat + (if s.control0.getLsbD 2 then 32 else 1)) % 32768 ∧
    (0x3F00 ≤ s.refreshData.toNat % 16384 →
      r = s.readByte .palette (palMirror s.refreshData.toNat) ∧
      t.bufferedData = s.readByte .nametable (ntAddress s.variant.mirroring s.refreshData.toNat) ∧
      t.patternCalls = s.patternCalls) ∧
    (0x2000 ≤ s.refreshData.toNat % 16384 → s.refreshData.toNat % 16384 < 0x3F00 →
      r = s.bufferedData ∧
      t.bufferedData = s.readByte .nametable (ntAddress s.variant.mirroring s.refreshData.toNat) ∧
      t.patternCalls = s.patternCalls) ∧
    (s.refreshData.toNat % 16384 < 0x2000 →
      r = s.bufferedData ∧ t.bufferedData = s.patternAnswer .port (s.refreshData.toNat % 16384) 0 ∧
      (∀ b, ClosedPattern s b → t.bufferedData = b (s.refreshData.toNat % 16384)) ∧
      t.patternCalls = s.patternCalls ++ [.read .port s.drawPhase (s.refreshData.toNat % 16384) 0]) ∧ MemoryKept s t

/-- The source's property A3 (R305): a byte written to a nametable through the DATA port comes back on the second read,
after one stale byte, where the second read's address is not yet in the palette window (there R147 answers at once:
log 18). Rests on D4, D11, D13, D14. -/
def Obligations.DataReadsLagOneBehind : Prop :=
  ∀ (s : State) (hi lo x : Byte), s.toggle = false → 0x2000 ≤ hi.toNat % 64 * 256 + lo.toNat →
    hi.toNat % 64 * 256 + lo.toNat + (if s.control0.getLsbD 2 then 32 else 1) < 0x3F00 →
    ∃ t, runOps [.wrAddress hi, .wrAddress lo, .wrData x, .wrAddress hi, .wrAddress lo, .rdData, .rdData] s = .next t ∧
      t.reads = s.reads ++ [s.bufferedData, x]

/-! ### Palette, OAM, resolver -/

/-- PalMirror (R83): the four aliases, every other index itself, 28 cells. -/
def Obligations.PaletteIndexMirroring : Prop :=
  palMirror 0x10 = 0x00 ∧ palMirror 0x14 = 0x04 ∧ palMirror 0x18 = 0x08 ∧ palMirror 0x1C = 0x0C ∧
  (∀ i, palMirror i = palMirror (i % 32)) ∧
  (∀ i, i < 32 → i ≠ 0x10 → i ≠ 0x14 → i ≠ 0x18 → i ≠ 0x1C → palMirror i = i) ∧
  ((List.range 32).map palMirror).toFinset.card = 28

/-- PalRead and PalWrite (R84, R85): the full byte written at an index is read back at every index that mirrors to the
same cell, and no other cell changes. -/
def Obligations.PaletteWriteReadsBack : Prop :=
  ∀ (s : State) (i j : Nat) (d : Byte), ∃ t, exec (.palWr i d) s = .next t ∧
    t.readByte .palette (palMirror i) = d ∧ BytesKeptBut .palette (palMirror i) s t ∧
    t.palRead j = (if palMirror j = palMirror i then d else s.palRead j) ∧ t.palRead j = t.readByte .palette (palMirror j)

/-- PAL_RD and PAL_WR touch nothing else: no address, no toggle, no buffer, no port latch (R160, R161; D8). -/
def Obligations.PaletteSidePortFrame : Prop :=
  ∀ (s : State) (i : Nat) (d : Byte),
    (∃ t, exec (.palRd i) s = .next t ∧ t = { s with reads := s.reads ++ [s.readByte .palette (palMirror i)] } ∧
      MemoryKept s t) ∧
    (∃ t, exec (.palWr i d) s = .next t ∧ t = { s with paletteRam := t.paletteRam } ∧
      BytesKeptBut .palette (palMirror i) s t ∧ PixelsKept s t)

/-- OAM_DMA (R162): byte `i` of the page, read in ascending order, lands at `(cursor + i) mod 256`; the cursor, the
port latch and everything else stay, at any scanline. Rests on D21, D54; an external byte that is not known is a draw
(log 6). -/
def Obligations.OamDmaCopiesThePage : Prop :=
  ∀ (page : Byte) (s : State), ∃ t, exec (.oamDma page) s = .next t ∧
    t = { s with oam := t.oam, draws := s.draws + 256 } ∧
    (∀ i, i < 256 → t.readByte .oam ((s.spriteAddress.toNat + i) % 256) =
      (Cells.lookup s.ext (page.toNat * 256 + i)).getD (Config.extByte (s.draws + i) (page.toNat * 256 + i))) ∧
    (∀ sp a, sp ≠ .oam ∨ 256 ≤ a → t.readByte sp a = s.readByte sp a) ∧ PixelsKept s t

/-- OAM has two writers, the SPRITE_DATA port and the DMA (R163): every other operation, the rendering of a line among
them, leaves OAM alone, and all but WR_SPRITE_ADDRESS, WR_SPRITE_DATA and RESET leave the cursor alone. -/
def Obligations.OamHasTwoWriters : Prop :=
  ∀ (i : Instr) (s t : State), exec i s = .next t →
    ((∀ d, i ≠ .wrSpriteData d) → (∀ p, i ≠ .oamDma p) → ∀ a, t.readByte .oam a = s.readByte .oam a) ∧
    ((∀ d, i ≠ .wrSpriteData d) → (∀ d, i ≠ .wrSpriteAddress d) → i ≠ .reset → t.spriteAddress = s.spriteAddress)

/-- VramWrite (R81): the byte is stored in the nametable or palette cell the address resolves to and nowhere else; a
pattern address is handed to ChrWrite and stores nothing in the block. -/
def Obligations.VramWriteStoresWhereResolved : Prop :=
  ∀ (a : Nat) (v : Byte) (s : State),
    (∀ b o, resolve s.variant.mirroring a = .nt b o →
      (vramWrite a v s).readByte .nametable (ntKey b o) = v ∧
      BytesKeptBut .nametable (ntKey b o) s (vramWrite a v s)) ∧
    (∀ i, resolve s.variant.mirroring a = .palette i →
      (vramWrite a v s).readByte .palette i = v ∧ BytesKeptBut .palette i s (vramWrite a v s)) ∧
    (∀ p, resolve s.variant.mirroring a = .pattern p →
      vramWrite a v s = chrWrite p v s ∧ BytesKept s (vramWrite a v s))

/-- What the resolver answers (R72, R73, R74): after the 14-bit mask, pattern space below 0x2000, the folded nametable
bank and offset below 0x3F00, and PalMirror of the low five bits from there on; the fold property of the source (R75)
for every mode and every address below the palette window's mirror. The region boundaries are D14, the four banks of
NONE D15 (log 16). -/
def Obligations.NametablesMirrorAt3000 : Prop :=
  ∀ (m : Mirroring) (a : Nat),
    (a % 0x4000 < 0x2000 → resolve m a = .pattern (a % 0x4000)) ∧
    (0x3F00 ≤ a % 0x4000 → resolve m a = .palette (palMirror (a % 32))) ∧
    (∃ bank, bank = (match m with
        | .none => a / 1024 % 4
        | .fourScreen => a / 1024 % 4
        | .vertical => a / 1024 % 2
        | .horizontal => a / 2048 % 2
        | .high => 1
        | .low => 0) ∧
      (0x2000 ≤ a % 0x4000 → a % 0x4000 < 0x3F00 → resolve m a = .nt bank (a % 1024)) ∧
      ntAddress m a = bank * 1024 + a % 1024) ∧
    (0x2000 ≤ a → a ≤ 0x2EFF → resolve m (a + 0x1000) = resolve m a) ∧ resolve m (a + 0x4000) = resolve m a ∧
    (0x2000 ≤ a → a ≤ 0x2FFF → ntAddress m (a + 0x1000) = ntAddress m a)

/-- Which nametables share storage under each mode (R74, R76): two nametable addresses of the same offset reach the
same cell exactly when the mode folds their selections together, and addresses of different offsets never do. That
NONE has four internal banks, and that A, B, C, D are the selections 0 to 3, are the spec's choice D15 (log 16). -/
def Obligations.NametableFoldSharing : Prop :=
  ∀ (m : Mirroring) (a b : Nat), ntAddress m a = ntAddress m b ↔
    (a % 1024 = b % 1024 ∧ match m with
      | .none => a / 1024 % 4 = b / 1024 % 4
      | .fourScreen => a / 1024 % 4 = b / 1024 % 4
      | .vertical => a / 1024 % 2 = b / 1024 % 2
      | .horizontal => a / 2048 % 2 = b / 2048 % 2
      | .high => True
      | .low => True)

/-! ### Events -/

/-- EV_NMI (R174, R288): an armed NMI is emitted once and disarmed, nothing else changes; with none armed nothing
happens (D55). -/
def Obligations.NmiEvent : Prop :=
  ∀ (s : State),
    (s.nmiArmed = true → ∃ t, exec .evNmi s = .next t ∧
      t = { s with nmiArmed := false, nmiTimer := 0, outputs := s.outputs ++ [.nmi] } ∧ MemoryKept s t) ∧
    (s.nmiArmed = false → exec .evNmi s = .next s)

/-- EV_SCANLINE onto a scanline that is neither the first of vblank nor PRERENDER (R172, R178): the counter moves, with
wrap, the line's transient state is cleared, and at the wrap the running address is reloaded if rendering is enabled.
Rests on D23, D29, D45. -/
def Obligations.ScanlineEventAdvances : Prop :=
  ∀ (s : State), s.variant.Ok → s.hblankDone = true → s.scanline + 1 ≠ s.variant.vblankFirstScanline →
    s.scanline + 2 ≠ s.variant.scanlinesPerFrame →
    ∃ t, exec .evScanline s = .next t ∧
      t = { s with
        hblankDone := false, drawPhase := .background, line := LineBuffers.cleared, dot := 0
        scanline := t.scanline, refreshData := t.refreshData, outputs := s.outputs ++ [.scanline t.scanline] } ∧
      (s.scanline + 1 = s.variant.scanlinesPerFrame → t.scanline = 0 ∧
        t.refreshData = if s.control1.getLsbD 3 || s.control1.getLsbD 4 then s.refreshLatch else s.refreshData) ∧
      (s.scanline + 1 ≠ s.variant.scanlinesPerFrame → t.scanline = s.scanline + 1 ∧ t.refreshData = s.refreshData) ∧
      MemoryKept s t

/-- EV_SCANLINE onto the first scanline of vblank (R172, R283): the flag is set, VBLANK(1) emitted, and the NMI armed
exactly if NMI_EN is set and no STATUS read suppressed it. Rests on D6, D24, D25. -/
def Obligations.VblankEntry : Prop :=
  ∀ (s : State), s.variant.Ok → s.hblankDone = true → s.scanline + 1 = s.variant.vblankFirstScanline →
    ∃ t, exec .evScanline s = .next t ∧
      t = { s with
        hblankDone := false, drawPhase := .background, line := LineBuffers.cleared, dot := 0
        scanline := s.variant.vblankFirstScanline, status := t.status, nmiArmed := t.nmiArmed, nmiTimer := t.nmiTimer
        outputs := s.outputs ++ [.scanline s.variant.vblankFirstScanline, .vblank true] } ∧
      t.status.getLsbD 7 = true ∧ (∀ b, b < 7 → t.status.getLsbD b = s.status.getLsbD b) ∧
      (s.control0.getLsbD 7 = true ∧ s.nmiSuppress = false → t.nmiArmed = true ∧ t.nmiTimer = s.variant.nmiDelayDots) ∧
      (¬ (s.control0.getLsbD 7 = true ∧ s.nmiSuppress = false) →
        t.nmiArmed = s.nmiArmed ∧ t.nmiTimer = s.nmiTimer) ∧ MemoryKept s t

/-- EV_SCANLINE onto PRERENDER (R172): the three flags are cleared, an undelivered NMI and the suppression are dropped,
VBLANK(0) is emitted. Rests on D6, D24, D25, D27. -/
def Obligations.PrerenderEntry : Prop :=
  ∀ (s : State), s.variant.Ok → s.hblankDone = true → s.scanline + 2 = s.variant.scanlinesPerFrame →
    ∃ t, exec .evScanline s = .next t ∧
      t = { s with
        hblankDone := false, drawPhase := .background, line := LineBuffers.cleared, dot := 0
        scanline := s.scanline + 1, status := t.status, nmiArmed := false, nmiTimer := 0, nmiSuppress := false
        outputs := s.outputs ++ [.scanline (s.scanline + 1), .vblank false] } ∧
      (∀ b, 5 ≤ b → t.status.getLsbD b = false) ∧ (∀ b, b < 5 → t.status.getLsbD b = s.status.getLsbD b) ∧
      MemoryKept s t

/-- The event contract (R183): a second hblank in one scanline period and a scanline event without its hblank are
refused (D56). -/
def Obligations.BrokenContractIsRefused : Prop :=
  ∀ (s : State), (s.hblankDone = true → exec .evHblank s = .refused .hblankTwice) ∧
    (s.hblankDone = false → exec .evScanline s = .refused .scanlineWithoutHblank)

/-- EV_HBLANK off the visible scanlines (R173 (a), R185) only emits HBLANK and moves the dot: it fetches nothing and
changes no scroll state. Rests on D23, D48. -/
def Obligations.HblankOffScreen : Prop :=
  ∀ (s : State), s.variant.Ok → s.hblankDone = false → 240 ≤ s.scanline →
    ∃ t, exec .evHblank s = .next t ∧
      t = { s with
        hblankDone := true, dot := s.variant.hblankDot
        outputs := s.outputs ++ [.hblank s.scanline
          (decide (s.variant.vblankFirstScanline ≤ s.scanline ∧ s.scanline + 1 < s.variant.scanlinesPerFrame))
          (!(s.control1.getLsbD 3 || s.control1.getLsbD 4))] } ∧ MemoryKept s t

/-- EV_HBLANK on a visible scanline (R173, R177, R266): the row of the scanline, and no other, is written with the
colours of the composited indices; HBLANK then ROW are emitted; no byte of the block's memories changes, and of STATUS
only SPRITE0_HIT and OVERFLOW can, by being set. The line is that of BgLine from the position after the horizontal
reload (R179, R201); its indices are the background's with sprites disabled (R247) and otherwise those of the
compositing (R241, R242). Rests on D4 to D6, D9, D23, D28, D30, D37, D41, D48, D52. -/
def Obligations.HblankRendersTheRow : Prop :=
  ∀ (s : State), s.hblankDone = false → s.scanline < 240 →
    ∃ t, exec .evHblank s = .next t ∧
      t = { s with
        hblankDone := true, dot := s.variant.hblankDot, drawPhase := .sprite, line := t.line, status := t.status
        refreshData := t.refreshData, fb := t.fb, patternCalls := t.patternCalls, draws := t.draws
        outputs := s.outputs ++ [.hblank s.scanline false (!(s.control1.getLsbD 3 || s.control1.getLsbD 4)),
          .row s.scanline (t.line.outIdx.map s.colorOf)] } ∧
      t.line.outIdx.length = 256 ∧
      (∀ x, x < 256 → t.pixel s.scanline x = s.colorOf (t.line.outIdx.getD x 0)) ∧
      (∀ y x, y ≠ s.scanline → t.pixel y x = s.pixel y x) ∧ BytesKept s t ∧
      (∀ b, b ≠ 5 → b ≠ 6 → t.status.getLsbD b = s.status.getLsbD b) ∧
      (∀ b, s.status.getLsbD b = true → t.status.getLsbD b = true) ∧
      (∀ b, (lineStart s).getLsbD b =
        if (s.control1.getLsbD 3 || s.control1.getLsbD 4) = true ∧ (b < 5 ∨ b = 10) then s.refreshLatch.getLsbD b
        else s.refreshData.getLsbD b) ∧
      (∀ l, l = (bgLine { s with refreshData := lineStart s, drawPhase := .background }).line →
        t.line.bgPix = l.bgPix ∧ t.line.bgGroup = l.bgGroup ∧ t.line.bgOpaque = l.bgOpaque) ∧
      (∀ x, x < 256 →
        (s.control1.getLsbD 4 = false → t.line.outIdx.getD x 0 = t.line.bgIndex x) ∧
        (s.control1.getLsbD 4 = true → t.claimant x = none → t.line.outIdx.getD x 0 = t.line.bgIndex x) ∧
        (s.control1.getLsbD 4 = true → ∀ k, t.claimant x = some k → t.line.outIdx.getD x 0 =
          if k.attr.getLsbD 5 = false ∨ t.line.bgOpaque.getD x false = false then k.index x else t.line.bgIndex x))

/-- The running address after EV_HBLANK on a visible scanline (R179, R180): with rendering enabled coarse_x and the
horizontal nametable bit come from the latch address and the position moves one pixel row down: rows 0 .. 29 cycle into
the vertical neighbour, rows 30 and 31 wrap in place; with rendering disabled it is unchanged. Rests on D5, D9, D30,
D31. -/
def Obligations.ScrollAfterARenderedLine : Prop :=
  ∀ (s : State), s.hblankDone = false → s.scanline < 240 →
    ∃ t, exec .evHblank s = .next t ∧
      ((s.control1.getLsbD 3 || s.control1.getLsbD 4) = false → t.refreshData = s.refreshData) ∧
      ((s.control1.getLsbD 3 || s.control1.getLsbD 4) = true →
        coarseX t.refreshData = coarseX s.refreshLatch ∧
        t.refreshData.getLsbD 10 = s.refreshLatch.getLsbD 10 ∧
        ((coarseY s.refreshData).toNat < 30 →
          (coarseY t.refreshData).toNat * 8 + (fineY t.refreshData).toNat =
            ((coarseY s.refreshData).toNat * 8 + (fineY s.refreshData).toNat + 1) % 240 ∧
          (t.refreshData.getLsbD 11 = s.refreshData.getLsbD 11 ↔
            (coarseY s.refreshData).toNat * 8 + (fineY s.refreshData).toNat ≠ 239)) ∧
        (30 ≤ (coarseY s.refreshData).toNat →
          (coarseY t.refreshData).toNat * 8 + (fineY t.refreshData).toNat =
            ((coarseY s.refreshData).toNat * 8 + (fineY s.refreshData).toNat + 1) % 256 ∧
          t.refreshData.getLsbD 11 = s.refreshData.getLsbD 11))

/-! ### Rendering -/

/-- With both layers disabled (R268) every pixel of the row is the backdrop colour, the row is still written, and
nothing is fetched or evaluated. Rests on D5, D28. -/
def Obligations.BackdropWhenDisabled : Prop :=
  ∀ (s : State), s.hblankDone = false → s.scanline < 240 → s.control1.getLsbD 3 = false → s.control1.getLsbD 4 = false →
    ∃ t, exec .evHblank s = .next t ∧
      (∀ x, x < 256 → t.pixel s.scanline x =
        colorTable s.variant s.emphasis s.mono (s.readByte .palette 0)) ∧
      t.patternCalls = s.patternCalls ∧ t.draws = s.draws ∧ t.status = s.status

/-- What tile column `col` of a line fetches (R202 to R205, R208): the tile at coarse_x + col, in the horizontally
adjacent nametable past column 31, its attribute byte and quadrant group, and, in the closed pattern model, the two
plane bytes of its row. Rests on D9, D14, D30, D32, D33. -/
def Obligations.ColumnFetchesItsTile : Prop :=
  ∀ (s : State) (col : Nat), col < 33 → ∃ c, (fetchLine s).1[col]? = some c ∧
    ∃ (nt cx cy : Nat),
      cx = ((coarseX s.refreshData).toNat + col) % 32 ∧ cy = (coarseY s.refreshData).toNat ∧
      nt = (if (coarseX s.refreshData).toNat + col < 32 then (ntField s.refreshData).toNat
        else (ntField s.refreshData).toNat / 2 * 2 + (1 - (ntField s.refreshData).toNat % 2)) ∧
      c.ntByte = s.ntRead (0x2000 + nt * 1024 + cy * 32 + cx) ∧
      c.atByte = s.ntRead (0x2000 + nt * 1024 + 0x3C0 + cy / 4 * 8 + cx / 4) ∧
      c.group.toNat = c.atByte.toNat / 2 ^ (cy / 2 % 2 * 4 + cx / 2 % 2 * 2) % 4 ∧
      (∀ b, ClosedPattern s b →
        c.plane0 = b ((if s.control0.getLsbD 4 then 0x1000 else 0) + c.ntByte.toNat * 16 + (fineY s.refreshData).toNat) ∧
        c.plane1 = b ((if s.control0.getLsbD 4 then 0x1000 else 0) + c.ntByte.toNat * 16 + (fineY s.refreshData).toNat + 8))

/-- Fine horizontal scroll (R206, R207): with the background enabled and not clipped, screen pixel `x` is pixel
`b = (x + x_fine) mod 8` of tile column `(x + x_fine) / 8`: its colour index 2 * plane1[7-b] + plane0[7-b], and its group;
nothing lands outside the 256 screen positions. The bit order and the plane weights are D33 (log 12), the enable and the
clip D28 and D36. -/
def Obligations.FineScrollPlacesPixels : Prop :=
  ∀ (s : State), s.bgEn = true → (bgLine s).line.bgPix.length = 256 ∧ (bgLine s).line.bgGroup.length = 256 ∧
    ∀ x, s.bgL8 = true ∨ 8 ≤ x → x < 256 →
      ∃ c, (fetchLine s).1[(x + s.xFine.toNat) / 8]? = some c ∧
        ((bgLine s).line.bgPix.getD x 0).toNat =
          2 * (c.plane1.getLsbD (7 - (x + s.xFine.toNat) % 8)).toNat +
            (c.plane0.getLsbD (7 - (x + s.xFine.toNat) % 8)).toNat ∧
        (bgLine s).line.bgGroup.getD x 0 = c.group

/-- Where the background is transparent (R210 to R213): in the left 8 columns when they are clipped, everywhere and
without a fetch when the layer is disabled, and elsewhere at colour 0; such a pixel has palette index 0. Rests on D28,
D35, D36. -/
def Obligations.TransparentBackground : Prop :=
  ∀ (s : State) (x : Nat),
    (s.control1.getLsbD 3 = false ∨ (s.control1.getLsbD 1 = false ∧ x < 8) →
      (bgLine s).line.bgPix.getD x 0 = 0 ∧ (bgLine s).line.bgOpaque.getD x false = false ∧
        (bgLine s).line.bgIndex x = 0) ∧
    (s.control1.getLsbD 3 = false → (bgLine s).patternCalls = s.patternCalls) ∧
    ((bgLine s).line.bgOpaque.getD x false = true ↔ (bgLine s).line.bgPix.getD x 0 ≠ 0)

/-- What the collaborator observes of a rendered line (R12, R90, R200, R209, R237): with the background enabled 66 tile
reads, plane 0 then plane 1 of each of the 33 columns from left to right, in phase BACKGROUND with the column's group as
hint; then two sprite reads for each selected sprite, in phase SPRITE with hint 0; nothing else. One draw is counted for
each read (the model's own counter, log 5). Rests on D4, D9, D14, D28, D30, D32, D33, D34, D39, D40, D52. -/
def Obligations.FetchesOfARenderedLine : Prop :=
  ∀ (s : State), s.hblankDone = false → s.scanline < 240 →
    ∃ t tiles sprites, exec .evHblank s = .next t ∧ t.patternCalls = s.patternCalls ++ tiles ++ sprites ∧
      tiles = (if s.control1.getLsbD 3 then (List.range 33).flatMap (s.tileCalls (lineStart s)) else []) ∧
      sprites = t.line.sprites.flatMap s.spriteCalls ∧
      tiles.length = (if s.control1.getLsbD 3 then 66 else 0) ∧ sprites.length = 2 * t.line.sprites.length ∧
      t.draws = s.draws + tiles.length + sprites.length

/-- Sprite evaluation (R234, R235, R236): the first eight OAM entries whose rows cover the scanline are selected, in
order, with their attribute and X bytes; OVERFLOW is set exactly when there is a ninth; with both layers disabled
nothing is evaluated. Rests on D4 to D6, D38, D40. -/
def Obligations.SpriteSelection : Prop :=
  ∀ (s : State), s.hblankDone = false → s.scanline < 240 →
    ∃ (t : State) (found : List Nat), exec .evHblank s = .next t ∧
      found = (if s.control1.getLsbD 3 || s.control1.getLsbD 4 then
        (List.range 64).filter fun n => decide
          ((s.readByte .oam (4 * n)).toNat + s.variant.spriteYOffset ≤ s.scanline ∧
           s.scanline < (s.readByte .oam (4 * n)).toNat + s.variant.spriteYOffset +
             (if s.control0.getLsbD 5 then 16 else 8)) else []) ∧
      t.line.sprites.map (·.sel) = found.take 8 ∧
      (∀ k ∈ t.line.sprites, k.attr = s.readByte .oam (4 * k.sel + 2) ∧ k.x = s.readByte .oam (4 * k.sel + 3)) ∧
      t.status.getLsbD 5 = (s.status.getLsbD 5 || decide (9 ≤ found.length))

/-- The fetch of a selected sprite (R237 to R240): the row after FLIP_V, the 8 x 8 or 8 x 16 address, and in the closed
pattern model the two plane bytes, both reversed under FLIP_H. Rests on D4, D33, D37, D38, D39. -/
def Obligations.SpritePlanesFetched : Prop :=
  ∀ (s : State), s.hblankDone = false → s.scanline < 240 →
    ∃ t, exec .evHblank s = .next t ∧ ∀ k ∈ t.line.sprites, ∃ (tile row pa h : Nat),
      pa = s.spritePatternAddress s.scanline k ∧
      h = (if s.control0.getLsbD 5 then 16 else 8) ∧ tile = (s.readByte .oam (4 * k.sel + 1)).toNat ∧
      row + (if k.attr.getLsbD 7 then s.scanline - ((s.readByte .oam (4 * k.sel)).toNat + s.variant.spriteYOffset) else 0) =
        (if k.attr.getLsbD 7 then h - 1
          else s.scanline - ((s.readByte .oam (4 * k.sel)).toNat + s.variant.spriteYOffset)) ∧ row < h ∧
      (s.control0.getLsbD 5 = false → pa = (if s.control0.getLsbD 3 then 0x1000 else 0) + tile * 16 + row) ∧
      (s.control0.getLsbD 5 = true → pa = tile % 2 * 0x1000 + (tile / 2 * 2 + row / 8) * 16 + row % 8) ∧
      (∀ b, ClosedPattern s b →
        (∀ j, j < 8 → k.p0.getLsbD j = (b pa).getLsbD (if k.attr.getLsbD 6 then 7 - j else j)) ∧
        (∀ j, j < 8 → k.p1.getLsbD j = (b (pa + 8)).getLsbD (if k.attr.getLsbD 6 then 7 - j else j)))

/-- Which sprite claims a pixel (R241, R243, R244): the first selected slot that covers it with an opaque pixel and is
not clipped there; where none does, the background's index stays. At `dx` columns from its left edge a sprite's colour
index is 2 * p1[7-dx] + p0[7-dx], beside its eight columns it is 0. Rests on D33, D36, D41. -/
def Obligations.FirstOpaqueSpriteClaims : Prop :=
  ∀ (s : State) (x : Nat),
    (∀ k, s.claimant x = some k ↔ ∃ before rest, s.line.sprites = before ++ k :: rest ∧
      (k.pixel x ≠ 0 ∧ (s.control1.getLsbD 2 = true ∨ 8 ≤ x)) ∧
      ∀ j ∈ before, ¬ (j.pixel x ≠ 0 ∧ (s.control1.getLsbD 2 = true ∨ 8 ≤ x))) ∧
    (∀ k : SpriteSlot, k.pixel x ≠ 0 ↔ k.x.toNat ≤ x ∧ x ≤ k.x.toNat + 7 ∧
      (k.p0.getLsbD (k.x.toNat + 7 - x) = true ∨ k.p1.getLsbD (k.x.toNat + 7 - x) = true)) ∧
    (∀ (k : SpriteSlot) (dx : Nat), dx < 8 → (k.pixel (k.x.toNat + dx)).toNat =
      2 * (k.p1.getLsbD (7 - dx)).toNat + (k.p0.getLsbD (7 - dx)).toNat) ∧
    (s.claimant x = none → x < 256 → (sprComposite s).line.outIdx.getD x 0 = s.line.bgIndex x)

/-- Priority (R242): at a claimed pixel a sprite in front shows; a sprite behind shows exactly where the background is
transparent, otherwise the background's index stays. That BEHIND is bit 5 of the attribute and PAL its bits 1:0 is D37
(log 12), that priority is decided after the claim is D41. -/
def Obligations.SpritePriority : Prop :=
  ∀ (s : State) (x : Nat) (k : SpriteSlot), x < 256 → s.claimant x = some k →
    (k.attr.getLsbD 5 = false → (sprComposite s).line.outIdx.getD x 0 = k.index x) ∧
    (k.attr.getLsbD 5 = true → s.line.bgOpaque.getD x false = false →
      (sprComposite s).line.outIdx.getD x 0 = k.index x) ∧
    (k.attr.getLsbD 5 = true → s.line.bgOpaque.getD x false = true →
      (sprComposite s).line.outIdx.getD x 0 = s.line.bgIndex x)

/-- The composited index (R260): a background pixel gives 0 or 4 * group + colour, below 16; a sprite pixel gives
16 + 4 * palette + colour with colour 1 .. 3, so 0x10, 0x14, 0x18, 0x1C are never produced; with sprites disabled every
pixel is a background pixel (R247). That the palette is bits 1:0 of the attribute is D37 (log 12), that colour 0 is
transparent D35, that SPR_EN gates the sprites D28. -/
def Obligations.CompositedIndexValues : Prop :=
  ∀ (s : State) (y x : Nat), x < 256 →
    (s.control1.getLsbD 4 = false → (sprLine y s).line.outIdx.getD x 0 = (sprLine y s).line.bgIndex x) ∧
    (((sprLine y s).line.outIdx.getD x 0 = (sprLine y s).line.bgIndex x ∧
      ((sprLine y s).line.bgIndex x).toNat =
        (if (sprLine y s).line.bgPix.getD x 0 = 0 then 0
          else ((sprLine y s).line.bgGroup.getD x 0).toNat * 4 + ((sprLine y s).line.bgPix.getD x 0).toNat) ∧
      ((sprLine y s).line.bgIndex x).toNat < 16) ∨
    (∃ k, (sprLine y s).claimant x = some k ∧
      ((sprLine y s).line.outIdx.getD x 0).toNat = 16 + k.attr.toNat % 4 * 4 + (k.pixel x).toNat ∧ k.pixel x ≠ 0))

/-- The sprite-0 hit (R245, R246): after a visible line the flag is set exactly if it was set before, or sprites are
enabled and at some pixel below the limit OAM sprite 0, selected first, has an opaque unclipped pixel over an opaque
background pixel. Rests on D5, D6, D36, D41, D42. -/
def Obligations.Sprite0HitExactly : Prop :=
  ∀ (s : State), s.hblankDone = false → s.scanline < 240 →
    ∃ t, exec .evHblank s = .next t ∧
      (t.status.getLsbD 6 = true ↔ s.status.getLsbD 6 = true ∨
        (s.control1.getLsbD 4 = true ∧ ∃ (x : Nat) (k : SpriteSlot), x < 256 ∧ x < s.variant.s0HitXLimit ∧
          t.line.sprites.head? = some k ∧ k.sel = 0 ∧ k.pixel x ≠ 0 ∧
          (s.control1.getLsbD 2 = true ∨ 8 ≤ x) ∧ t.line.bgOpaque.getD x false = true))

/-! ### TICK and RESET -/

/-- A TICK of no dots does nothing, and ticks add up (R116, R175). Rests on D23. -/
def Obligations.TicksAddUp : Prop :=
  ∀ (s : State) (m n : Nat), exec (.tick 0) s = .next s ∧
    exec (.tick (m + n)) s = runOps [.tick m, .tick n] s

/-- Between two events of a line, before HBLANK_DOT or from it on, ticks only move the dot and count the armed NMI down;
the tick that brings the timer to 0, or the first one where it is 0 already, emits the NMI (R175, R58). Rests on D23,
D24. -/
def Obligations.TicksCountDownToTheNmi : Prop :=
  ∀ (s : State) (n : Nat),
    ((s.dot + n < s.variant.hblankDot ∧ s.variant.hblankDot < s.variant.dotsPerLine) ∨
      (s.variant.hblankDot ≤ s.dot ∧ s.dot + n < s.variant.dotsPerLine)) →
    (s.nmiArmed = false → ∃ t, exec (.tick n) s = .next t ∧ t = { s with dot := s.dot + n } ∧ MemoryKept s t) ∧
    (s.nmiArmed = true → n < s.nmiTimer → ∃ t, exec (.tick n) s = .next t ∧
      t = { s with dot := s.dot + n, nmiTimer := s.nmiTimer - n } ∧ MemoryKept s t) ∧
    (s.nmiArmed = true → 0 < n → s.nmiTimer ≤ n → ∃ t, exec (.tick n) s = .next t ∧
      t = { s with dot := s.dot + n, nmiTimer := 0, nmiArmed := false, outputs := s.outputs ++ [.nmi] } ∧
      MemoryKept s t)

/-- The tick before HBLANK_DOT performs EV_HBLANK, the last tick of a line EV_SCANLINE, in both cases after an armed NMI
has counted down; if then an NMI is armed with its timer at 0, whether it was armed before or by the event, EV_NMI
follows, the event first (R175 (b), R286). An event due out of contract is refused (R183). Rests on D23, D47, D56. -/
def Obligations.TickPerformsTheEventDue : Prop :=
  ∀ (s c : State), s.variant.hblankDot < s.variant.dotsPerLine →
    c = { s with nmiTimer := if s.nmiArmed then s.nmiTimer - 1 else s.nmiTimer } →
    (s.dot + 1 = s.variant.hblankDot →
      (s.hblankDone = false → ∃ t, exec .evHblank c = .next t ∧
        exec (.tick 1) s = if t.nmiArmed = true ∧ t.nmiTimer = 0 then exec .evNmi t else .next t) ∧
      (s.hblankDone = true → exec (.tick 1) s = .refused .hblankTwice)) ∧
    (s.dot + 1 = s.variant.dotsPerLine →
      (s.hblankDone = true → ∃ t, exec .evScanline c = .next t ∧
        exec (.tick 1) s = if t.nmiArmed = true ∧ t.nmiTimer = 0 then exec .evNmi t else .next t) ∧
      (s.hblankDone = false → exec (.tick 1) s = .refused .scanlineWithoutHblank))

/-- From a legal state a TICK of any length completes: the dot clock alone never breaks the event contract (R175 (c),
R183, R314). Rests on D23, D56. -/
def Obligations.TicksNeverBreakTheContract : Prop :=
  ∀ (s : State) (n : Nat), Inv s → ∃ t, exec (.tick n) s = .next t ∧ Inv t

/-- RESET (R300, R61) from any state: the control state at its reset values, the memories, the framebuffer, the
configuration and the histories untouched, no output; the values beyond registers and toggle are D45. -/
def Obligations.ResetLeaves : Prop :=
  ∀ (s : State), ∃ t, exec .reset s = .next t ∧
    (∀ p, t.reg p = 0) ∧ t.toggle = false ∧ t.refreshData = 0 ∧ t.refreshLatch = 0 ∧ t.xFine = 0 ∧
    t.bufferedData = 0 ∧ t.dataLatch = 0 ∧ t.scanline = 0 ∧ t.dot = 0 ∧ t.drawPhase = .background ∧
    t.nmiArmed = false ∧ t.nmiSuppress = false ∧ t.nmiTimer = 0 ∧ t.hblankDone = false ∧
    t.line = LineBuffers.cleared ∧ t.outputs = s.outputs ∧ t.reads = s.reads ∧ t.patternCalls = s.patternCalls ∧
    t.draws = s.draws ∧ t.variant = s.variant ∧ t.patternModel = s.patternModel ∧ t.chr = s.chr ∧ t.ext = s.ext ∧
    t.pending = s.pending ∧ MemoryKept s t

/-- Device start (R301): a bad VARIANT or a missing collaborator is refused, and every other start is a legal state with
the given configuration from which RESET changes nothing; `State.reset` is the one of the default variant (log 2). That
VARIANT comes first, so a bad one without a collaborator is refused as `badVariant`, is the model's choice (log 15). -/
def Obligations.DeviceStartIsLegal : Prop :=
  (∀ (v : Variant), v.Ok → ∃ t, deviceStart v true = .next t ∧ Inv t ∧ t.variant = v ∧ exec .reset t = .next t) ∧
  (∀ (v : Variant) (c : Bool), ¬ v.Ok → deviceStart v c = .refused .badVariant) ∧
  (∀ (v : Variant), v.Ok → deviceStart v false = .refused .noPatternCollaborator) ∧
  deviceStart Variant.ntsc true = .next State.reset

/-! ### Invariants and whole-machine rules -/

/-- `Inv` holds at reset. -/
def Obligations.ResetStateIsLegal : Prop := Inv State.reset

/-- Every step from a legal state leads to a legal state: the sequencer stays in its ranges with the hblank event
taken exactly from its dot on, an NMI is armed only in vblank and only enabled and unsuppressed, the VBLANK flag is set
only in vblank, STATUS bits 4:0 stay 0, the memories stay canonical, the line buffers keep their shape and hold no
sprite colour 0 (R24, R40, R41, R45, R52, R56 to R59, R171, R181, R260). -/
def Obligations.StepKeepsInv : Prop := ∀ (s t : State), Inv s → step s = .next t → Inv t

/-- At most one NMI is emitted per vblank, whatever the bus master does with NMI_EN or STATUS and whatever the scheduler
offers: the strobes since the last vblank entry and a still armed one never exceed one (R184, R290). -/
def Obligations.NmiAtMostOncePerVblank : Prop :=
  ∀ (s t : State), nmisSinceVblank s.outputs + s.nmiArmed.toNat ≤ 1 → step s = .next t →
    nmisSinceVblank t.outputs + t.nmiArmed.toNat ≤ 1

/-- An NMI becomes armed only by a scanline event, alone or inside a TICK: no port access arms one (R132 (a), R290). -/
def Obligations.OnlyTheScanlineEventArms : Prop :=
  ∀ (i : Instr) (s t : State), exec i s = .next t → s.nmiArmed = false → t.nmiArmed = true →
    i = .evScanline ∨ ∃ n, i = .tick n

/-- The scanline counter (R40): EV_SCANLINE advances it by 1 and wraps it at the end of the frame, RESET sets it to 0,
only TICK, which performs EV_SCANLINE, and these move it, and it stays in its range. -/
def Obligations.ScanlineCounterMoves : Prop :=
  ∀ (i : Instr) (s t : State), exec i s = .next t →
    (i = .evScanline → t.scanline = if s.scanline + 1 = s.variant.scanlinesPerFrame then 0 else s.scanline + 1) ∧
    (i = .reset → t.scanline = 0) ∧
    (i ≠ .evScanline → i ≠ .reset → (∀ n, i ≠ .tick n) → t.scanline = s.scanline) ∧
    (s.scanline < s.variant.scanlinesPerFrame → t.scanline < t.variant.scanlinesPerFrame)

/-- The transient line buffers are dead between operations (R63, R296): two states that differ only in them give the
same outcome and the same snapshot, so a snapshot replays. -/
def Obligations.TransientBuffersAreDead : Prop :=
  ∀ (i : Instr) (s : State) (l : LineBuffers),
    (∀ t, exec i s = .next t → ∃ u, exec i { s with line := l } = .next u ∧ u.snapshot = t.snapshot) ∧
    (∀ r, exec i s = .refused r → exec i { s with line := l } = .refused r)

/-- The configuration, the presented words and the known external bytes are changed by no operation, and the listed
pattern bytes by none but a DATA-port write, in the closed model with CHR_WRITABLE (R5, R82, R90; the words, the model
and the listed bytes are logs 1, 5, 6). -/
def Obligations.ConfigurationIsFixed : Prop :=
  ∀ (i : Instr) (s t : State), exec i s = .next t →
    t.variant = s.variant ∧ t.pending = s.pending ∧ t.ext = s.ext ∧ t.patternModel = s.patternModel ∧
    ((∀ d, i ≠ .wrData d) ∨ s.patternModel = .openModel ∨ s.variant.chrWritable = false → t.chr = s.chr)

/-- Operations R91 calls idempotent, and RESET (R300 (d)): issued twice in a row the writes leave the state of one, and
the reads return the same byte and otherwise leave the state of one; OAM_DMA does so for a fixed external memory, that
is when the 256 bytes of the page are known (log 6), but for the model's own counter of draws (log 5). -/
def Obligations.IdempotentOperations : Prop :=
  ∀ (s : State) (d : Byte) (j : Nat),
    (∀ i ∈ [Instr.wrControl0 d, .wrControl1 d, .wrStatus d, .wrSpriteAddress d, .palWr j d, .reset],
      ∃ t, exec i s = .next t ∧ exec i t = .next t) ∧
    (∀ i ∈ [Instr.rdControl0, .rdControl1, .rdSpriteAddress, .rdScroll, .rdAddress, .rdSpriteData, .palRd j],
      ∃ t r, exec i s = .next t ∧ t.reads = s.reads ++ [r] ∧ exec i t = .next { t with reads := t.reads ++ [r] }) ∧
    (∀ page : Byte, (∀ n, n < 256 → (Cells.lookup s.ext (page.toNat * 256 + n)).isSome = true) →
      ∃ t, exec (.oamDma page) s = .next t ∧ exec (.oamDma page) t = .next { t with draws := t.draws + 256 })

/-! ### Colour -/

/-- The laws of COLOR_TABLE (R262 to R265) and the colour of an index (R261): only bits 5:0 of the palette byte select;
RGB_ROM ignores EMPHASIS and MONO; GENERATED applies Post to GEN; Post changes nothing with no bit set. The arguments are
CONTROL1 bits 7:5 and 0 and the mirrored palette byte. Rests on D5, D18, D43; the table's contents are open (log 7). -/
def Obligations.ColourTableLaws : Prop :=
  (∀ (v : Variant) (e : BitVec 3) (m : Bool) (c : Byte),
    colorTable v e m c = colorTable v e m (c &&& 0x3F) ∧
    (v.paletteStrategy = .rgbRom → colorTable v e m c = Config.rom v.colorTable (c.setWidth 6)) ∧
    (v.paletteStrategy = .generated → colorTable v e m c = post v.colorTable e m (Config.gen v.colorTable (c.setWidth 6))) ∧
    (∀ rgb, post v.colorTable 0 false rgb = rgb)) ∧
  (∀ (s : State) (i : BitVec 5), s.colorOf i =
    colorTable s.variant (s.control1.extractLsb' 5 3) (s.control1.getLsbD 0) (s.readByte .palette (palMirror i.toNat)))
end

