-- ==== Sys2Proof/Laws/State.lean ====
section
/-! SUPPORT. One lemma per field per named update of State, true by rfl, so that no proof unfolds a record update. -/

namespace Sys2Proof.Machine

variable (s : State)

/-! ### emit -/

@[simp] theorem State.emit_variant (e : OutputEvent) : (s.emit e).variant = s.variant := rfl
@[simp] theorem State.emit_patternModel (e : OutputEvent) : (s.emit e).patternModel = s.patternModel := rfl
@[simp] theorem State.emit_control0 (e : OutputEvent) : (s.emit e).control0 = s.control0 := rfl
@[simp] theorem State.emit_control1 (e : OutputEvent) : (s.emit e).control1 = s.control1 := rfl
@[simp] theorem State.emit_status (e : OutputEvent) : (s.emit e).status = s.status := rfl
@[simp] theorem State.emit_spriteAddress (e : OutputEvent) : (s.emit e).spriteAddress = s.spriteAddress := rfl
@[simp] theorem State.emit_spriteData (e : OutputEvent) : (s.emit e).spriteData = s.spriteData := rfl
@[simp] theorem State.emit_scroll (e : OutputEvent) : (s.emit e).scroll = s.scroll := rfl
@[simp] theorem State.emit_address (e : OutputEvent) : (s.emit e).address = s.address := rfl
@[simp] theorem State.emit_data (e : OutputEvent) : (s.emit e).data = s.data := rfl
@[simp] theorem State.emit_toggle (e : OutputEvent) : (s.emit e).toggle = s.toggle := rfl
@[simp] theorem State.emit_refreshData (e : OutputEvent) : (s.emit e).refreshData = s.refreshData := rfl
@[simp] theorem State.emit_refreshLatch (e : OutputEvent) : (s.emit e).refreshLatch = s.refreshLatch := rfl
@[simp] theorem State.emit_xFine (e : OutputEvent) : (s.emit e).xFine = s.xFine := rfl
@[simp] theorem State.emit_bufferedData (e : OutputEvent) : (s.emit e).bufferedData = s.bufferedData := rfl
@[simp] theorem State.emit_dataLatch (e : OutputEvent) : (s.emit e).dataLatch = s.dataLatch := rfl
@[simp] theorem State.emit_scanline (e : OutputEvent) : (s.emit e).scanline = s.scanline := rfl
@[simp] theorem State.emit_dot (e : OutputEvent) : (s.emit e).dot = s.dot := rfl
@[simp] theorem State.emit_drawPhase (e : OutputEvent) : (s.emit e).drawPhase = s.drawPhase := rfl
@[simp] theorem State.emit_ntRam (e : OutputEvent) : (s.emit e).ntRam = s.ntRam := rfl
@[simp] theorem State.emit_paletteRam (e : OutputEvent) : (s.emit e).paletteRam = s.paletteRam := rfl
@[simp] theorem State.emit_oam (e : OutputEvent) : (s.emit e).oam = s.oam := rfl
@[simp] theorem State.emit_fb (e : OutputEvent) : (s.emit e).fb = s.fb := rfl
@[simp] theorem State.emit_line (e : OutputEvent) : (s.emit e).line = s.line := rfl
@[simp] theorem State.emit_nmiArmed (e : OutputEvent) : (s.emit e).nmiArmed = s.nmiArmed := rfl
@[simp] theorem State.emit_nmiSuppress (e : OutputEvent) : (s.emit e).nmiSuppress = s.nmiSuppress := rfl
@[simp] theorem State.emit_nmiTimer (e : OutputEvent) : (s.emit e).nmiTimer = s.nmiTimer := rfl
@[simp] theorem State.emit_hblankDone (e : OutputEvent) : (s.emit e).hblankDone = s.hblankDone := rfl
@[simp] theorem State.emit_outputs (e : OutputEvent) : (s.emit e).outputs = s.outputs ++ [e] := rfl
@[simp] theorem State.emit_reads (e : OutputEvent) : (s.emit e).reads = s.reads := rfl
@[simp] theorem State.emit_patternCalls (e : OutputEvent) : (s.emit e).patternCalls = s.patternCalls := rfl
@[simp] theorem State.emit_chr (e : OutputEvent) : (s.emit e).chr = s.chr := rfl
@[simp] theorem State.emit_ext (e : OutputEvent) : (s.emit e).ext = s.ext := rfl
@[simp] theorem State.emit_draws (e : OutputEvent) : (s.emit e).draws = s.draws := rfl
@[simp] theorem State.emit_pending (e : OutputEvent) : (s.emit e).pending = s.pending := rfl

/-! ### returnByte -/

@[simp] theorem State.returnByte_variant (r : Byte) : (s.returnByte r).variant = s.variant := rfl
@[simp] theorem State.returnByte_patternModel (r : Byte) : (s.returnByte r).patternModel = s.patternModel := rfl
@[simp] theorem State.returnByte_control0 (r : Byte) : (s.returnByte r).control0 = s.control0 := rfl
@[simp] theorem State.returnByte_control1 (r : Byte) : (s.returnByte r).control1 = s.control1 := rfl
@[simp] theorem State.returnByte_status (r : Byte) : (s.returnByte r).status = s.status := rfl
@[simp] theorem State.returnByte_spriteAddress (r : Byte) : (s.returnByte r).spriteAddress = s.spriteAddress := rfl
@[simp] theorem State.returnByte_spriteData (r : Byte) : (s.returnByte r).spriteData = s.spriteData := rfl
@[simp] theorem State.returnByte_scroll (r : Byte) : (s.returnByte r).scroll = s.scroll := rfl
@[simp] theorem State.returnByte_address (r : Byte) : (s.returnByte r).address = s.address := rfl
@[simp] theorem State.returnByte_data (r : Byte) : (s.returnByte r).data = s.data := rfl
@[simp] theorem State.returnByte_toggle (r : Byte) : (s.returnByte r).toggle = s.toggle := rfl
@[simp] theorem State.returnByte_refreshData (r : Byte) : (s.returnByte r).refreshData = s.refreshData := rfl
@[simp] theorem State.returnByte_refreshLatch (r : Byte) : (s.returnByte r).refreshLatch = s.refreshLatch := rfl
@[simp] theorem State.returnByte_xFine (r : Byte) : (s.returnByte r).xFine = s.xFine := rfl
@[simp] theorem State.returnByte_bufferedData (r : Byte) : (s.returnByte r).bufferedData = s.bufferedData := rfl
@[simp] theorem State.returnByte_dataLatch (r : Byte) : (s.returnByte r).dataLatch = s.dataLatch := rfl
@[simp] theorem State.returnByte_scanline (r : Byte) : (s.returnByte r).scanline = s.scanline := rfl
@[simp] theorem State.returnByte_dot (r : Byte) : (s.returnByte r).dot = s.dot := rfl
@[simp] theorem State.returnByte_drawPhase (r : Byte) : (s.returnByte r).drawPhase = s.drawPhase := rfl
@[simp] theorem State.returnByte_ntRam (r : Byte) : (s.returnByte r).ntRam = s.ntRam := rfl
@[simp] theorem State.returnByte_paletteRam (r : Byte) : (s.returnByte r).paletteRam = s.paletteRam := rfl
@[simp] theorem State.returnByte_oam (r : Byte) : (s.returnByte r).oam = s.oam := rfl
@[simp] theorem State.returnByte_fb (r : Byte) : (s.returnByte r).fb = s.fb := rfl
@[simp] theorem State.returnByte_line (r : Byte) : (s.returnByte r).line = s.line := rfl
@[simp] theorem State.returnByte_nmiArmed (r : Byte) : (s.returnByte r).nmiArmed = s.nmiArmed := rfl
@[simp] theorem State.returnByte_nmiSuppress (r : Byte) : (s.returnByte r).nmiSuppress = s.nmiSuppress := rfl
@[simp] theorem State.returnByte_nmiTimer (r : Byte) : (s.returnByte r).nmiTimer = s.nmiTimer := rfl
@[simp] theorem State.returnByte_hblankDone (r : Byte) : (s.returnByte r).hblankDone = s.hblankDone := rfl
@[simp] theorem State.returnByte_outputs (r : Byte) : (s.returnByte r).outputs = s.outputs := rfl
@[simp] theorem State.returnByte_reads (r : Byte) : (s.returnByte r).reads = s.reads ++ [r] := rfl
@[simp] theorem State.returnByte_patternCalls (r : Byte) : (s.returnByte r).patternCalls = s.patternCalls := rfl
@[simp] theorem State.returnByte_chr (r : Byte) : (s.returnByte r).chr = s.chr := rfl
@[simp] theorem State.returnByte_ext (r : Byte) : (s.returnByte r).ext = s.ext := rfl
@[simp] theorem State.returnByte_draws (r : Byte) : (s.returnByte r).draws = s.draws := rfl
@[simp] theorem State.returnByte_pending (r : Byte) : (s.returnByte r).pending = s.pending := rfl

/-! ### respond -/

@[simp] theorem State.respond_variant (r : Byte) : (s.respond r).variant = s.variant := rfl
@[simp] theorem State.respond_patternModel (r : Byte) : (s.respond r).patternModel = s.patternModel := rfl
@[simp] theorem State.respond_control0 (r : Byte) : (s.respond r).control0 = s.control0 := rfl
@[simp] theorem State.respond_control1 (r : Byte) : (s.respond r).control1 = s.control1 := rfl
@[simp] theorem State.respond_status (r : Byte) : (s.respond r).status = s.status := rfl
@[simp] theorem State.respond_spriteAddress (r : Byte) : (s.respond r).spriteAddress = s.spriteAddress := rfl
@[simp] theorem State.respond_spriteData (r : Byte) : (s.respond r).spriteData = s.spriteData := rfl
@[simp] theorem State.respond_scroll (r : Byte) : (s.respond r).scroll = s.scroll := rfl
@[simp] theorem State.respond_address (r : Byte) : (s.respond r).address = s.address := rfl
@[simp] theorem State.respond_data (r : Byte) : (s.respond r).data = s.data := rfl
@[simp] theorem State.respond_toggle (r : Byte) : (s.respond r).toggle = s.toggle := rfl
@[simp] theorem State.respond_refreshData (r : Byte) : (s.respond r).refreshData = s.refreshData := rfl
@[simp] theorem State.respond_refreshLatch (r : Byte) : (s.respond r).refreshLatch = s.refreshLatch := rfl
@[simp] theorem State.respond_xFine (r : Byte) : (s.respond r).xFine = s.xFine := rfl
@[simp] theorem State.respond_bufferedData (r : Byte) : (s.respond r).bufferedData = s.bufferedData := rfl
@[simp] theorem State.respond_dataLatch (r : Byte) : (s.respond r).dataLatch = r := rfl
@[simp] theorem State.respond_scanline (r : Byte) : (s.respond r).scanline = s.scanline := rfl
@[simp] theorem State.respond_dot (r : Byte) : (s.respond r).dot = s.dot := rfl
@[simp] theorem State.respond_drawPhase (r : Byte) : (s.respond r).drawPhase = s.drawPhase := rfl
@[simp] theorem State.respond_ntRam (r : Byte) : (s.respond r).ntRam = s.ntRam := rfl
@[simp] theorem State.respond_paletteRam (r : Byte) : (s.respond r).paletteRam = s.paletteRam := rfl
@[simp] theorem State.respond_oam (r : Byte) : (s.respond r).oam = s.oam := rfl
@[simp] theorem State.respond_fb (r : Byte) : (s.respond r).fb = s.fb := rfl
@[simp] theorem State.respond_line (r : Byte) : (s.respond r).line = s.line := rfl
@[simp] theorem State.respond_nmiArmed (r : Byte) : (s.respond r).nmiArmed = s.nmiArmed := rfl
@[simp] theorem State.respond_nmiSuppress (r : Byte) : (s.respond r).nmiSuppress = s.nmiSuppress := rfl
@[simp] theorem State.respond_nmiTimer (r : Byte) : (s.respond r).nmiTimer = s.nmiTimer := rfl
@[simp] theorem State.respond_hblankDone (r : Byte) : (s.respond r).hblankDone = s.hblankDone := rfl
@[simp] theorem State.respond_outputs (r : Byte) : (s.respond r).outputs = s.outputs := rfl
@[simp] theorem State.respond_reads (r : Byte) : (s.respond r).reads = s.reads ++ [r] := rfl
@[simp] theorem State.respond_patternCalls (r : Byte) : (s.respond r).patternCalls = s.patternCalls := rfl
@[simp] theorem State.respond_chr (r : Byte) : (s.respond r).chr = s.chr := rfl
@[simp] theorem State.respond_ext (r : Byte) : (s.respond r).ext = s.ext := rfl
@[simp] theorem State.respond_draws (r : Byte) : (s.respond r).draws = s.draws := rfl
@[simp] theorem State.respond_pending (r : Byte) : (s.respond r).pending = s.pending := rfl

/-! ### setVblank -/

@[simp] theorem State.setVblank_variant (b : Bool) : (s.setVblank b).variant = s.variant := rfl
@[simp] theorem State.setVblank_patternModel (b : Bool) : (s.setVblank b).patternModel = s.patternModel := rfl
@[simp] theorem State.setVblank_control0 (b : Bool) : (s.setVblank b).control0 = s.control0 := rfl
@[simp] theorem State.setVblank_control1 (b : Bool) : (s.setVblank b).control1 = s.control1 := rfl
@[simp] theorem State.setVblank_status (b : Bool) : (s.setVblank b).status = setFlag s.status Layout.vblankBit b := rfl
@[simp] theorem State.setVblank_spriteAddress (b : Bool) : (s.setVblank b).spriteAddress = s.spriteAddress := rfl
@[simp] theorem State.setVblank_spriteData (b : Bool) : (s.setVblank b).spriteData = s.spriteData := rfl
@[simp] theorem State.setVblank_scroll (b : Bool) : (s.setVblank b).scroll = s.scroll := rfl
@[simp] theorem State.setVblank_address (b : Bool) : (s.setVblank b).address = s.address := rfl
@[simp] theorem State.setVblank_data (b : Bool) : (s.setVblank b).data = s.data := rfl
@[simp] theorem State.setVblank_toggle (b : Bool) : (s.setVblank b).toggle = s.toggle := rfl
@[simp] theorem State.setVblank_refreshData (b : Bool) : (s.setVblank b).refreshData = s.refreshData := rfl
@[simp] theorem State.setVblank_refreshLatch (b : Bool) : (s.setVblank b).refreshLatch = s.refreshLatch := rfl
@[simp] theorem State.setVblank_xFine (b : Bool) : (s.setVblank b).xFine = s.xFine := rfl
@[simp] theorem State.setVblank_bufferedData (b : Bool) : (s.setVblank b).bufferedData = s.bufferedData := rfl
@[simp] theorem State.setVblank_dataLatch (b : Bool) : (s.setVblank b).dataLatch = s.dataLatch := rfl
@[simp] theorem State.setVblank_scanline (b : Bool) : (s.setVblank b).scanline = s.scanline := rfl
@[simp] theorem State.setVblank_dot (b : Bool) : (s.setVblank b).dot = s.dot := rfl
@[simp] theorem State.setVblank_drawPhase (b : Bool) : (s.setVblank b).drawPhase = s.drawPhase := rfl
@[simp] theorem State.setVblank_ntRam (b : Bool) : (s.setVblank b).ntRam = s.ntRam := rfl
@[simp] theorem State.setVblank_paletteRam (b : Bool) : (s.setVblank b).paletteRam = s.paletteRam := rfl
@[simp] theorem State.setVblank_oam (b : Bool) : (s.setVblank b).oam = s.oam := rfl
@[simp] theorem State.setVblank_fb (b : Bool) : (s.setVblank b).fb = s.fb := rfl
@[simp] theorem State.setVblank_line (b : Bool) : (s.setVblank b).line = s.line := rfl
@[simp] theorem State.setVblank_nmiArmed (b : Bool) : (s.setVblank b).nmiArmed = s.nmiArmed := rfl
@[simp] theorem State.setVblank_nmiSuppress (b : Bool) : (s.setVblank b).nmiSuppress = s.nmiSuppress := rfl
@[simp] theorem State.setVblank_nmiTimer (b : Bool) : (s.setVblank b).nmiTimer = s.nmiTimer := rfl
@[simp] theorem State.setVblank_hblankDone (b : Bool) : (s.setVblank b).hblankDone = s.hblankDone := rfl
@[simp] theorem State.setVblank_outputs (b : Bool) : (s.setVblank b).outputs = s.outputs := rfl
@[simp] theorem State.setVblank_reads (b : Bool) : (s.setVblank b).reads = s.reads := rfl
@[simp] theorem State.setVblank_patternCalls (b : Bool) : (s.setVblank b).patternCalls = s.patternCalls := rfl
@[simp] theorem State.setVblank_chr (b : Bool) : (s.setVblank b).chr = s.chr := rfl
@[simp] theorem State.setVblank_ext (b : Bool) : (s.setVblank b).ext = s.ext := rfl
@[simp] theorem State.setVblank_draws (b : Bool) : (s.setVblank b).draws = s.draws := rfl
@[simp] theorem State.setVblank_pending (b : Bool) : (s.setVblank b).pending = s.pending := rfl

/-! ### raiseSprite0Hit -/

@[simp] theorem State.raiseSprite0Hit_variant (b : Bool) : (s.raiseSprite0Hit b).variant = s.variant := rfl
@[simp] theorem State.raiseSprite0Hit_patternModel (b : Bool) : (s.raiseSprite0Hit b).patternModel = s.patternModel := rfl
@[simp] theorem State.raiseSprite0Hit_control0 (b : Bool) : (s.raiseSprite0Hit b).control0 = s.control0 := rfl
@[simp] theorem State.raiseSprite0Hit_control1 (b : Bool) : (s.raiseSprite0Hit b).control1 = s.control1 := rfl
@[simp] theorem State.raiseSprite0Hit_status (b : Bool) : (s.raiseSprite0Hit b).status = setFlag s.status Layout.sprite0HitBit (s.sprite0Hit || b) := rfl
@[simp] theorem State.raiseSprite0Hit_spriteAddress (b : Bool) : (s.raiseSprite0Hit b).spriteAddress = s.spriteAddress := rfl
@[simp] theorem State.raiseSprite0Hit_spriteData (b : Bool) : (s.raiseSprite0Hit b).spriteData = s.spriteData := rfl
@[simp] theorem State.raiseSprite0Hit_scroll (b : Bool) : (s.raiseSprite0Hit b).scroll = s.scroll := rfl
@[simp] theorem State.raiseSprite0Hit_address (b : Bool) : (s.raiseSprite0Hit b).address = s.address := rfl
@[simp] theorem State.raiseSprite0Hit_data (b : Bool) : (s.raiseSprite0Hit b).data = s.data := rfl
@[simp] theorem State.raiseSprite0Hit_toggle (b : Bool) : (s.raiseSprite0Hit b).toggle = s.toggle := rfl
@[simp] theorem State.raiseSprite0Hit_refreshData (b : Bool) : (s.raiseSprite0Hit b).refreshData = s.refreshData := rfl
@[simp] theorem State.raiseSprite0Hit_refreshLatch (b : Bool) : (s.raiseSprite0Hit b).refreshLatch = s.refreshLatch := rfl
@[simp] theorem State.raiseSprite0Hit_xFine (b : Bool) : (s.raiseSprite0Hit b).xFine = s.xFine := rfl
@[simp] theorem State.raiseSprite0Hit_bufferedData (b : Bool) : (s.raiseSprite0Hit b).bufferedData = s.bufferedData := rfl
@[simp] theorem State.raiseSprite0Hit_dataLatch (b : Bool) : (s.raiseSprite0Hit b).dataLatch = s.dataLatch := rfl
@[simp] theorem State.raiseSprite0Hit_scanline (b : Bool) : (s.raiseSprite0Hit b).scanline = s.scanline := rfl
@[simp] theorem State.raiseSprite0Hit_dot (b : Bool) : (s.raiseSprite0Hit b).dot = s.dot := rfl
@[simp] theorem State.raiseSprite0Hit_drawPhase (b : Bool) : (s.raiseSprite0Hit b).drawPhase = s.drawPhase := rfl
@[simp] theorem State.raiseSprite0Hit_ntRam (b : Bool) : (s.raiseSprite0Hit b).ntRam = s.ntRam := rfl
@[simp] theorem State.raiseSprite0Hit_paletteRam (b : Bool) : (s.raiseSprite0Hit b).paletteRam = s.paletteRam := rfl
@[simp] theorem State.raiseSprite0Hit_oam (b : Bool) : (s.raiseSprite0Hit b).oam = s.oam := rfl
@[simp] theorem State.raiseSprite0Hit_fb (b : Bool) : (s.raiseSprite0Hit b).fb = s.fb := rfl
@[simp] theorem State.raiseSprite0Hit_line (b : Bool) : (s.raiseSprite0Hit b).line = s.line := rfl
@[simp] theorem State.raiseSprite0Hit_nmiArmed (b : Bool) : (s.raiseSprite0Hit b).nmiArmed = s.nmiArmed := rfl
@[simp] theorem State.raiseSprite0Hit_nmiSuppress (b : Bool) : (s.raiseSprite0Hit b).nmiSuppress = s.nmiSuppress := rfl
@[simp] theorem State.raiseSprite0Hit_nmiTimer (b : Bool) : (s.raiseSprite0Hit b).nmiTimer = s.nmiTimer := rfl
@[simp] theorem State.raiseSprite0Hit_hblankDone (b : Bool) : (s.raiseSprite0Hit b).hblankDone = s.hblankDone := rfl
@[simp] theorem State.raiseSprite0Hit_outputs (b : Bool) : (s.raiseSprite0Hit b).outputs = s.outputs := rfl
@[simp] theorem State.raiseSprite0Hit_reads (b : Bool) : (s.raiseSprite0Hit b).reads = s.reads := rfl
@[simp] theorem State.raiseSprite0Hit_patternCalls (b : Bool) : (s.raiseSprite0Hit b).patternCalls = s.patternCalls := rfl
@[simp] theorem State.raiseSprite0Hit_chr (b : Bool) : (s.raiseSprite0Hit b).chr = s.chr := rfl
@[simp] theorem State.raiseSprite0Hit_ext (b : Bool) : (s.raiseSprite0Hit b).ext = s.ext := rfl
@[simp] theorem State.raiseSprite0Hit_draws (b : Bool) : (s.raiseSprite0Hit b).draws = s.draws := rfl
@[simp] theorem State.raiseSprite0Hit_pending (b : Bool) : (s.raiseSprite0Hit b).pending = s.pending := rfl

/-! ### raiseOverflow -/

@[simp] theorem State.raiseOverflow_variant (b : Bool) : (s.raiseOverflow b).variant = s.variant := rfl
@[simp] theorem State.raiseOverflow_patternModel (b : Bool) : (s.raiseOverflow b).patternModel = s.patternModel := rfl
@[simp] theorem State.raiseOverflow_control0 (b : Bool) : (s.raiseOverflow b).control0 = s.control0 := rfl
@[simp] theorem State.raiseOverflow_control1 (b : Bool) : (s.raiseOverflow b).control1 = s.control1 := rfl
@[simp] theorem State.raiseOverflow_status (b : Bool) : (s.raiseOverflow b).status = setFlag s.status Layout.overflowBit (s.overflow || b) := rfl
@[simp] theorem State.raiseOverflow_spriteAddress (b : Bool) : (s.raiseOverflow b).spriteAddress = s.spriteAddress := rfl
@[simp] theorem State.raiseOverflow_spriteData (b : Bool) : (s.raiseOverflow b).spriteData = s.spriteData := rfl
@[simp] theorem State.raiseOverflow_scroll (b : Bool) : (s.raiseOverflow b).scroll = s.scroll := rfl
@[simp] theorem State.raiseOverflow_address (b : Bool) : (s.raiseOverflow b).address = s.address := rfl
@[simp] theorem State.raiseOverflow_data (b : Bool) : (s.raiseOverflow b).data = s.data := rfl
@[simp] theorem State.raiseOverflow_toggle (b : Bool) : (s.raiseOverflow b).toggle = s.toggle := rfl
@[simp] theorem State.raiseOverflow_refreshData (b : Bool) : (s.raiseOverflow b).refreshData = s.refreshData := rfl
@[simp] theorem State.raiseOverflow_refreshLatch (b : Bool) : (s.raiseOverflow b).refreshLatch = s.refreshLatch := rfl
@[simp] theorem State.raiseOverflow_xFine (b : Bool) : (s.raiseOverflow b).xFine = s.xFine := rfl
@[simp] theorem State.raiseOverflow_bufferedData (b : Bool) : (s.raiseOverflow b).bufferedData = s.bufferedData := rfl
@[simp] theorem State.raiseOverflow_dataLatch (b : Bool) : (s.raiseOverflow b).dataLatch = s.dataLatch := rfl
@[simp] theorem State.raiseOverflow_scanline (b : Bool) : (s.raiseOverflow b).scanline = s.scanline := rfl
@[simp] theorem State.raiseOverflow_dot (b : Bool) : (s.raiseOverflow b).dot = s.dot := rfl
@[simp] theorem State.raiseOverflow_drawPhase (b : Bool) : (s.raiseOverflow b).drawPhase = s.drawPhase := rfl
@[simp] theorem State.raiseOverflow_ntRam (b : Bool) : (s.raiseOverflow b).ntRam = s.ntRam := rfl
@[simp] theorem State.raiseOverflow_paletteRam (b : Bool) : (s.raiseOverflow b).paletteRam = s.paletteRam := rfl
@[simp] theorem State.raiseOverflow_oam (b : Bool) : (s.raiseOverflow b).oam = s.oam := rfl
@[simp] theorem State.raiseOverflow_fb (b : Bool) : (s.raiseOverflow b).fb = s.fb := rfl
@[simp] theorem State.raiseOverflow_line (b : Bool) : (s.raiseOverflow b).line = s.line := rfl
@[simp] theorem State.raiseOverflow_nmiArmed (b : Bool) : (s.raiseOverflow b).nmiArmed = s.nmiArmed := rfl
@[simp] theorem State.raiseOverflow_nmiSuppress (b : Bool) : (s.raiseOverflow b).nmiSuppress = s.nmiSuppress := rfl
@[simp] theorem State.raiseOverflow_nmiTimer (b : Bool) : (s.raiseOverflow b).nmiTimer = s.nmiTimer := rfl
@[simp] theorem State.raiseOverflow_hblankDone (b : Bool) : (s.raiseOverflow b).hblankDone = s.hblankDone := rfl
@[simp] theorem State.raiseOverflow_outputs (b : Bool) : (s.raiseOverflow b).outputs = s.outputs := rfl
@[simp] theorem State.raiseOverflow_reads (b : Bool) : (s.raiseOverflow b).reads = s.reads := rfl
@[simp] theorem State.raiseOverflow_patternCalls (b : Bool) : (s.raiseOverflow b).patternCalls = s.patternCalls := rfl
@[simp] theorem State.raiseOverflow_chr (b : Bool) : (s.raiseOverflow b).chr = s.chr := rfl
@[simp] theorem State.raiseOverflow_ext (b : Bool) : (s.raiseOverflow b).ext = s.ext := rfl
@[simp] theorem State.raiseOverflow_draws (b : Bool) : (s.raiseOverflow b).draws = s.draws := rfl
@[simp] theorem State.raiseOverflow_pending (b : Bool) : (s.raiseOverflow b).pending = s.pending := rfl

/-! ### clearFlags -/

@[simp] theorem State.clearFlags_variant : (s.clearFlags).variant = s.variant := rfl
@[simp] theorem State.clearFlags_patternModel : (s.clearFlags).patternModel = s.patternModel := rfl
@[simp] theorem State.clearFlags_control0 : (s.clearFlags).control0 = s.control0 := rfl
@[simp] theorem State.clearFlags_control1 : (s.clearFlags).control1 = s.control1 := rfl
@[simp] theorem State.clearFlags_status : (s.clearFlags).status = setBits s.status Layout.flagsLo (0 : BitVec 3) := rfl
@[simp] theorem State.clearFlags_spriteAddress : (s.clearFlags).spriteAddress = s.spriteAddress := rfl
@[simp] theorem State.clearFlags_spriteData : (s.clearFlags).spriteData = s.spriteData := rfl
@[simp] theorem State.clearFlags_scroll : (s.clearFlags).scroll = s.scroll := rfl
@[simp] theorem State.clearFlags_address : (s.clearFlags).address = s.address := rfl
@[simp] theorem State.clearFlags_data : (s.clearFlags).data = s.data := rfl
@[simp] theorem State.clearFlags_toggle : (s.clearFlags).toggle = s.toggle := rfl
@[simp] theorem State.clearFlags_refreshData : (s.clearFlags).refreshData = s.refreshData := rfl
@[simp] theorem State.clearFlags_refreshLatch : (s.clearFlags).refreshLatch = s.refreshLatch := rfl
@[simp] theorem State.clearFlags_xFine : (s.clearFlags).xFine = s.xFine := rfl
@[simp] theorem State.clearFlags_bufferedData : (s.clearFlags).bufferedData = s.bufferedData := rfl
@[simp] theorem State.clearFlags_dataLatch : (s.clearFlags).dataLatch = s.dataLatch := rfl
@[simp] theorem State.clearFlags_scanline : (s.clearFlags).scanline = s.scanline := rfl
@[simp] theorem State.clearFlags_dot : (s.clearFlags).dot = s.dot := rfl
@[simp] theorem State.clearFlags_drawPhase : (s.clearFlags).drawPhase = s.drawPhase := rfl
@[simp] theorem State.clearFlags_ntRam : (s.clearFlags).ntRam = s.ntRam := rfl
@[simp] theorem State.clearFlags_paletteRam : (s.clearFlags).paletteRam = s.paletteRam := rfl
@[simp] theorem State.clearFlags_oam : (s.clearFlags).oam = s.oam := rfl
@[simp] theorem State.clearFlags_fb : (s.clearFlags).fb = s.fb := rfl
@[simp] theorem State.clearFlags_line : (s.clearFlags).line = s.line := rfl
@[simp] theorem State.clearFlags_nmiArmed : (s.clearFlags).nmiArmed = s.nmiArmed := rfl
@[simp] theorem State.clearFlags_nmiSuppress : (s.clearFlags).nmiSuppress = s.nmiSuppress := rfl
@[simp] theorem State.clearFlags_nmiTimer : (s.clearFlags).nmiTimer = s.nmiTimer := rfl
@[simp] theorem State.clearFlags_hblankDone : (s.clearFlags).hblankDone = s.hblankDone := rfl
@[simp] theorem State.clearFlags_outputs : (s.clearFlags).outputs = s.outputs := rfl
@[simp] theorem State.clearFlags_reads : (s.clearFlags).reads = s.reads := rfl
@[simp] theorem State.clearFlags_patternCalls : (s.clearFlags).patternCalls = s.patternCalls := rfl
@[simp] theorem State.clearFlags_chr : (s.clearFlags).chr = s.chr := rfl
@[simp] theorem State.clearFlags_ext : (s.clearFlags).ext = s.ext := rfl
@[simp] theorem State.clearFlags_draws : (s.clearFlags).draws = s.draws := rfl
@[simp] theorem State.clearFlags_pending : (s.clearFlags).pending = s.pending := rfl

/-! ### disarmNmi -/

@[simp] theorem State.disarmNmi_variant : (s.disarmNmi).variant = s.variant := rfl
@[simp] theorem State.disarmNmi_patternModel : (s.disarmNmi).patternModel = s.patternModel := rfl
@[simp] theorem State.disarmNmi_control0 : (s.disarmNmi).control0 = s.control0 := rfl
@[simp] theorem State.disarmNmi_control1 : (s.disarmNmi).control1 = s.control1 := rfl
@[simp] theorem State.disarmNmi_status : (s.disarmNmi).status = s.status := rfl
@[simp] theorem State.disarmNmi_spriteAddress : (s.disarmNmi).spriteAddress = s.spriteAddress := rfl
@[simp] theorem State.disarmNmi_spriteData : (s.disarmNmi).spriteData = s.spriteData := rfl
@[simp] theorem State.disarmNmi_scroll : (s.disarmNmi).scroll = s.scroll := rfl
@[simp] theorem State.disarmNmi_address : (s.disarmNmi).address = s.address := rfl
@[simp] theorem State.disarmNmi_data : (s.disarmNmi).data = s.data := rfl
@[simp] theorem State.disarmNmi_toggle : (s.disarmNmi).toggle = s.toggle := rfl
@[simp] theorem State.disarmNmi_refreshData : (s.disarmNmi).refreshData = s.refreshData := rfl
@[simp] theorem State.disarmNmi_refreshLatch : (s.disarmNmi).refreshLatch = s.refreshLatch := rfl
@[simp] theorem State.disarmNmi_xFine : (s.disarmNmi).xFine = s.xFine := rfl
@[simp] theorem State.disarmNmi_bufferedData : (s.disarmNmi).bufferedData = s.bufferedData := rfl
@[simp] theorem State.disarmNmi_dataLatch : (s.disarmNmi).dataLatch = s.dataLatch := rfl
@[simp] theorem State.disarmNmi_scanline : (s.disarmNmi).scanline = s.scanline := rfl
@[simp] theorem State.disarmNmi_dot : (s.disarmNmi).dot = s.dot := rfl
@[simp] theorem State.disarmNmi_drawPhase : (s.disarmNmi).drawPhase = s.drawPhase := rfl
@[simp] theorem State.disarmNmi_ntRam : (s.disarmNmi).ntRam = s.ntRam := rfl
@[simp] theorem State.disarmNmi_paletteRam : (s.disarmNmi).paletteRam = s.paletteRam := rfl
@[simp] theorem State.disarmNmi_oam : (s.disarmNmi).oam = s.oam := rfl
@[simp] theorem State.disarmNmi_fb : (s.disarmNmi).fb = s.fb := rfl
@[simp] theorem State.disarmNmi_line : (s.disarmNmi).line = s.line := rfl
@[simp] theorem State.disarmNmi_nmiArmed : (s.disarmNmi).nmiArmed = false := rfl
@[simp] theorem State.disarmNmi_nmiSuppress : (s.disarmNmi).nmiSuppress = s.nmiSuppress := rfl
@[simp] theorem State.disarmNmi_nmiTimer : (s.disarmNmi).nmiTimer = 0 := rfl
@[simp] theorem State.disarmNmi_hblankDone : (s.disarmNmi).hblankDone = s.hblankDone := rfl
@[simp] theorem State.disarmNmi_outputs : (s.disarmNmi).outputs = s.outputs := rfl
@[simp] theorem State.disarmNmi_reads : (s.disarmNmi).reads = s.reads := rfl
@[simp] theorem State.disarmNmi_patternCalls : (s.disarmNmi).patternCalls = s.patternCalls := rfl
@[simp] theorem State.disarmNmi_chr : (s.disarmNmi).chr = s.chr := rfl
@[simp] theorem State.disarmNmi_ext : (s.disarmNmi).ext = s.ext := rfl
@[simp] theorem State.disarmNmi_draws : (s.disarmNmi).draws = s.draws := rfl
@[simp] theorem State.disarmNmi_pending : (s.disarmNmi).pending = s.pending := rfl

/-! ### armNmi -/

@[simp] theorem State.armNmi_variant : (s.armNmi).variant = s.variant := rfl
@[simp] theorem State.armNmi_patternModel : (s.armNmi).patternModel = s.patternModel := rfl
@[simp] theorem State.armNmi_control0 : (s.armNmi).control0 = s.control0 := rfl
@[simp] theorem State.armNmi_control1 : (s.armNmi).control1 = s.control1 := rfl
@[simp] theorem State.armNmi_status : (s.armNmi).status = s.status := rfl
@[simp] theorem State.armNmi_spriteAddress : (s.armNmi).spriteAddress = s.spriteAddress := rfl
@[simp] theorem State.armNmi_spriteData : (s.armNmi).spriteData = s.spriteData := rfl
@[simp] theorem State.armNmi_scroll : (s.armNmi).scroll = s.scroll := rfl
@[simp] theorem State.armNmi_address : (s.armNmi).address = s.address := rfl
@[simp] theorem State.armNmi_data : (s.armNmi).data = s.data := rfl
@[simp] theorem State.armNmi_toggle : (s.armNmi).toggle = s.toggle := rfl
@[simp] theorem State.armNmi_refreshData : (s.armNmi).refreshData = s.refreshData := rfl
@[simp] theorem State.armNmi_refreshLatch : (s.armNmi).refreshLatch = s.refreshLatch := rfl
@[simp] theorem State.armNmi_xFine : (s.armNmi).xFine = s.xFine := rfl
@[simp] theorem State.armNmi_bufferedData : (s.armNmi).bufferedData = s.bufferedData := rfl
@[simp] theorem State.armNmi_dataLatch : (s.armNmi).dataLatch = s.dataLatch := rfl
@[simp] theorem State.armNmi_scanline : (s.armNmi).scanline = s.scanline := rfl
@[simp] theorem State.armNmi_dot : (s.armNmi).dot = s.dot := rfl
@[simp] theorem State.armNmi_drawPhase : (s.armNmi).drawPhase = s.drawPhase := rfl
@[simp] theorem State.armNmi_ntRam : (s.armNmi).ntRam = s.ntRam := rfl
@[simp] theorem State.armNmi_paletteRam : (s.armNmi).paletteRam = s.paletteRam := rfl
@[simp] theorem State.armNmi_oam : (s.armNmi).oam = s.oam := rfl
@[simp] theorem State.armNmi_fb : (s.armNmi).fb = s.fb := rfl
@[simp] theorem State.armNmi_line : (s.armNmi).line = s.line := rfl
@[simp] theorem State.armNmi_nmiArmed : (s.armNmi).nmiArmed = true := rfl
@[simp] theorem State.armNmi_nmiSuppress : (s.armNmi).nmiSuppress = s.nmiSuppress := rfl
@[simp] theorem State.armNmi_nmiTimer : (s.armNmi).nmiTimer = s.variant.nmiDelayDots := rfl
@[simp] theorem State.armNmi_hblankDone : (s.armNmi).hblankDone = s.hblankDone := rfl
@[simp] theorem State.armNmi_outputs : (s.armNmi).outputs = s.outputs := rfl
@[simp] theorem State.armNmi_reads : (s.armNmi).reads = s.reads := rfl
@[simp] theorem State.armNmi_patternCalls : (s.armNmi).patternCalls = s.patternCalls := rfl
@[simp] theorem State.armNmi_chr : (s.armNmi).chr = s.chr := rfl
@[simp] theorem State.armNmi_ext : (s.armNmi).ext = s.ext := rfl
@[simp] theorem State.armNmi_draws : (s.armNmi).draws = s.draws := rfl
@[simp] theorem State.armNmi_pending : (s.armNmi).pending = s.pending := rfl

/-! ### deliverNmi -/

@[simp] theorem State.deliverNmi_variant : (s.deliverNmi).variant = s.variant := rfl
@[simp] theorem State.deliverNmi_patternModel : (s.deliverNmi).patternModel = s.patternModel := rfl
@[simp] theorem State.deliverNmi_control0 : (s.deliverNmi).control0 = s.control0 := rfl
@[simp] theorem State.deliverNmi_control1 : (s.deliverNmi).control1 = s.control1 := rfl
@[simp] theorem State.deliverNmi_status : (s.deliverNmi).status = s.status := rfl
@[simp] theorem State.deliverNmi_spriteAddress : (s.deliverNmi).spriteAddress = s.spriteAddress := rfl
@[simp] theorem State.deliverNmi_spriteData : (s.deliverNmi).spriteData = s.spriteData := rfl
@[simp] theorem State.deliverNmi_scroll : (s.deliverNmi).scroll = s.scroll := rfl
@[simp] theorem State.deliverNmi_address : (s.deliverNmi).address = s.address := rfl
@[simp] theorem State.deliverNmi_data : (s.deliverNmi).data = s.data := rfl
@[simp] theorem State.deliverNmi_toggle : (s.deliverNmi).toggle = s.toggle := rfl
@[simp] theorem State.deliverNmi_refreshData : (s.deliverNmi).refreshData = s.refreshData := rfl
@[simp] theorem State.deliverNmi_refreshLatch : (s.deliverNmi).refreshLatch = s.refreshLatch := rfl
@[simp] theorem State.deliverNmi_xFine : (s.deliverNmi).xFine = s.xFine := rfl
@[simp] theorem State.deliverNmi_bufferedData : (s.deliverNmi).bufferedData = s.bufferedData := rfl
@[simp] theorem State.deliverNmi_dataLatch : (s.deliverNmi).dataLatch = s.dataLatch := rfl
@[simp] theorem State.deliverNmi_scanline : (s.deliverNmi).scanline = s.scanline := rfl
@[simp] theorem State.deliverNmi_dot : (s.deliverNmi).dot = s.dot := rfl
@[simp] theorem State.deliverNmi_drawPhase : (s.deliverNmi).drawPhase = s.drawPhase := rfl
@[simp] theorem State.deliverNmi_ntRam : (s.deliverNmi).ntRam = s.ntRam := rfl
@[simp] theorem State.deliverNmi_paletteRam : (s.deliverNmi).paletteRam = s.paletteRam := rfl
@[simp] theorem State.deliverNmi_oam : (s.deliverNmi).oam = s.oam := rfl
@[simp] theorem State.deliverNmi_fb : (s.deliverNmi).fb = s.fb := rfl
@[simp] theorem State.deliverNmi_line : (s.deliverNmi).line = s.line := rfl
@[simp] theorem State.deliverNmi_nmiArmed : (s.deliverNmi).nmiArmed = false := rfl
@[simp] theorem State.deliverNmi_nmiSuppress : (s.deliverNmi).nmiSuppress = s.nmiSuppress := rfl
@[simp] theorem State.deliverNmi_nmiTimer : (s.deliverNmi).nmiTimer = 0 := rfl
@[simp] theorem State.deliverNmi_hblankDone : (s.deliverNmi).hblankDone = s.hblankDone := rfl
@[simp] theorem State.deliverNmi_outputs : (s.deliverNmi).outputs = s.outputs ++ [.nmi] := rfl
@[simp] theorem State.deliverNmi_reads : (s.deliverNmi).reads = s.reads := rfl
@[simp] theorem State.deliverNmi_patternCalls : (s.deliverNmi).patternCalls = s.patternCalls := rfl
@[simp] theorem State.deliverNmi_chr : (s.deliverNmi).chr = s.chr := rfl
@[simp] theorem State.deliverNmi_ext : (s.deliverNmi).ext = s.ext := rfl
@[simp] theorem State.deliverNmi_draws : (s.deliverNmi).draws = s.draws := rfl
@[simp] theorem State.deliverNmi_pending : (s.deliverNmi).pending = s.pending := rfl

/-! ### clearLine -/

@[simp] theorem State.clearLine_variant : (s.clearLine).variant = s.variant := rfl
@[simp] theorem State.clearLine_patternModel : (s.clearLine).patternModel = s.patternModel := rfl
@[simp] theorem State.clearLine_control0 : (s.clearLine).control0 = s.control0 := rfl
@[simp] theorem State.clearLine_control1 : (s.clearLine).control1 = s.control1 := rfl
@[simp] theorem State.clearLine_status : (s.clearLine).status = s.status := rfl
@[simp] theorem State.clearLine_spriteAddress : (s.clearLine).spriteAddress = s.spriteAddress := rfl
@[simp] theorem State.clearLine_spriteData : (s.clearLine).spriteData = s.spriteData := rfl
@[simp] theorem State.clearLine_scroll : (s.clearLine).scroll = s.scroll := rfl
@[simp] theorem State.clearLine_address : (s.clearLine).address = s.address := rfl
@[simp] theorem State.clearLine_data : (s.clearLine).data = s.data := rfl
@[simp] theorem State.clearLine_toggle : (s.clearLine).toggle = s.toggle := rfl
@[simp] theorem State.clearLine_refreshData : (s.clearLine).refreshData = s.refreshData := rfl
@[simp] theorem State.clearLine_refreshLatch : (s.clearLine).refreshLatch = s.refreshLatch := rfl
@[simp] theorem State.clearLine_xFine : (s.clearLine).xFine = s.xFine := rfl
@[simp] theorem State.clearLine_bufferedData : (s.clearLine).bufferedData = s.bufferedData := rfl
@[simp] theorem State.clearLine_dataLatch : (s.clearLine).dataLatch = s.dataLatch := rfl
@[simp] theorem State.clearLine_scanline : (s.clearLine).scanline = s.scanline := rfl
@[simp] theorem State.clearLine_dot : (s.clearLine).dot = s.dot := rfl
@[simp] theorem State.clearLine_drawPhase : (s.clearLine).drawPhase = s.drawPhase := rfl
@[simp] theorem State.clearLine_ntRam : (s.clearLine).ntRam = s.ntRam := rfl
@[simp] theorem State.clearLine_paletteRam : (s.clearLine).paletteRam = s.paletteRam := rfl
@[simp] theorem State.clearLine_oam : (s.clearLine).oam = s.oam := rfl
@[simp] theorem State.clearLine_fb : (s.clearLine).fb = s.fb := rfl
@[simp] theorem State.clearLine_line : (s.clearLine).line = LineBuffers.cleared := rfl
@[simp] theorem State.clearLine_nmiArmed : (s.clearLine).nmiArmed = s.nmiArmed := rfl
@[simp] theorem State.clearLine_nmiSuppress : (s.clearLine).nmiSuppress = s.nmiSuppress := rfl
@[simp] theorem State.clearLine_nmiTimer : (s.clearLine).nmiTimer = s.nmiTimer := rfl
@[simp] theorem State.clearLine_hblankDone : (s.clearLine).hblankDone = s.hblankDone := rfl
@[simp] theorem State.clearLine_outputs : (s.clearLine).outputs = s.outputs := rfl
@[simp] theorem State.clearLine_reads : (s.clearLine).reads = s.reads := rfl
@[simp] theorem State.clearLine_patternCalls : (s.clearLine).patternCalls = s.patternCalls := rfl
@[simp] theorem State.clearLine_chr : (s.clearLine).chr = s.chr := rfl
@[simp] theorem State.clearLine_ext : (s.clearLine).ext = s.ext := rfl
@[simp] theorem State.clearLine_draws : (s.clearLine).draws = s.draws := rfl
@[simp] theorem State.clearLine_pending : (s.clearLine).pending = s.pending := rfl

/-! ### advanceAddress -/

@[simp] theorem State.advanceAddress_variant : (s.advanceAddress).variant = s.variant := rfl
@[simp] theorem State.advanceAddress_patternModel : (s.advanceAddress).patternModel = s.patternModel := rfl
@[simp] theorem State.advanceAddress_control0 : (s.advanceAddress).control0 = s.control0 := rfl
@[simp] theorem State.advanceAddress_control1 : (s.advanceAddress).control1 = s.control1 := rfl
@[simp] theorem State.advanceAddress_status : (s.advanceAddress).status = s.status := rfl
@[simp] theorem State.advanceAddress_spriteAddress : (s.advanceAddress).spriteAddress = s.spriteAddress := rfl
@[simp] theorem State.advanceAddress_spriteData : (s.advanceAddress).spriteData = s.spriteData := rfl
@[simp] theorem State.advanceAddress_scroll : (s.advanceAddress).scroll = s.scroll := rfl
@[simp] theorem State.advanceAddress_address : (s.advanceAddress).address = s.address := rfl
@[simp] theorem State.advanceAddress_data : (s.advanceAddress).data = s.data := rfl
@[simp] theorem State.advanceAddress_toggle : (s.advanceAddress).toggle = s.toggle := rfl
@[simp] theorem State.advanceAddress_refreshData : (s.advanceAddress).refreshData = s.refreshData + BitVec.ofNat 15 s.inc := rfl
@[simp] theorem State.advanceAddress_refreshLatch : (s.advanceAddress).refreshLatch = s.refreshLatch := rfl
@[simp] theorem State.advanceAddress_xFine : (s.advanceAddress).xFine = s.xFine := rfl
@[simp] theorem State.advanceAddress_bufferedData : (s.advanceAddress).bufferedData = s.bufferedData := rfl
@[simp] theorem State.advanceAddress_dataLatch : (s.advanceAddress).dataLatch = s.dataLatch := rfl
@[simp] theorem State.advanceAddress_scanline : (s.advanceAddress).scanline = s.scanline := rfl
@[simp] theorem State.advanceAddress_dot : (s.advanceAddress).dot = s.dot := rfl
@[simp] theorem State.advanceAddress_drawPhase : (s.advanceAddress).drawPhase = s.drawPhase := rfl
@[simp] theorem State.advanceAddress_ntRam : (s.advanceAddress).ntRam = s.ntRam := rfl
@[simp] theorem State.advanceAddress_paletteRam : (s.advanceAddress).paletteRam = s.paletteRam := rfl
@[simp] theorem State.advanceAddress_oam : (s.advanceAddress).oam = s.oam := rfl
@[simp] theorem State.advanceAddress_fb : (s.advanceAddress).fb = s.fb := rfl
@[simp] theorem State.advanceAddress_line : (s.advanceAddress).line = s.line := rfl
@[simp] theorem State.advanceAddress_nmiArmed : (s.advanceAddress).nmiArmed = s.nmiArmed := rfl
@[simp] theorem State.advanceAddress_nmiSuppress : (s.advanceAddress).nmiSuppress = s.nmiSuppress := rfl
@[simp] theorem State.advanceAddress_nmiTimer : (s.advanceAddress).nmiTimer = s.nmiTimer := rfl
@[simp] theorem State.advanceAddress_hblankDone : (s.advanceAddress).hblankDone = s.hblankDone := rfl
@[simp] theorem State.advanceAddress_outputs : (s.advanceAddress).outputs = s.outputs := rfl
@[simp] theorem State.advanceAddress_reads : (s.advanceAddress).reads = s.reads := rfl
@[simp] theorem State.advanceAddress_patternCalls : (s.advanceAddress).patternCalls = s.patternCalls := rfl
@[simp] theorem State.advanceAddress_chr : (s.advanceAddress).chr = s.chr := rfl
@[simp] theorem State.advanceAddress_ext : (s.advanceAddress).ext = s.ext := rfl
@[simp] theorem State.advanceAddress_draws : (s.advanceAddress).draws = s.draws := rfl
@[simp] theorem State.advanceAddress_pending : (s.advanceAddress).pending = s.pending := rfl

/-! ### notePatternRead -/

@[simp] theorem State.notePatternRead_variant (k : PatternKind) (p : Nat) (h : BitVec 2) : (s.notePatternRead k p h).variant = s.variant := rfl
@[simp] theorem State.notePatternRead_patternModel (k : PatternKind) (p : Nat) (h : BitVec 2) : (s.notePatternRead k p h).patternModel = s.patternModel := rfl
@[simp] theorem State.notePatternRead_control0 (k : PatternKind) (p : Nat) (h : BitVec 2) : (s.notePatternRead k p h).control0 = s.control0 := rfl
@[simp] theorem State.notePatternRead_control1 (k : PatternKind) (p : Nat) (h : BitVec 2) : (s.notePatternRead k p h).control1 = s.control1 := rfl
@[simp] theorem State.notePatternRead_status (k : PatternKind) (p : Nat) (h : BitVec 2) : (s.notePatternRead k p h).status = s.status := rfl
@[simp] theorem State.notePatternRead_spriteAddress (k : PatternKind) (p : Nat) (h : BitVec 2) : (s.notePatternRead k p h).spriteAddress = s.spriteAddress := rfl
@[simp] theorem State.notePatternRead_spriteData (k : PatternKind) (p : Nat) (h : BitVec 2) : (s.notePatternRead k p h).spriteData = s.spriteData := rfl
@[simp] theorem State.notePatternRead_scroll (k : PatternKind) (p : Nat) (h : BitVec 2) : (s.notePatternRead k p h).scroll = s.scroll := rfl
@[simp] theorem State.notePatternRead_address (k : PatternKind) (p : Nat) (h : BitVec 2) : (s.notePatternRead k p h).address = s.address := rfl
@[simp] theorem State.notePatternRead_data (k : PatternKind) (p : Nat) (h : BitVec 2) : (s.notePatternRead k p h).data = s.data := rfl
@[simp] theorem State.notePatternRead_toggle (k : PatternKind) (p : Nat) (h : BitVec 2) : (s.notePatternRead k p h).toggle = s.toggle := rfl
@[simp] theorem State.notePatternRead_refreshData (k : PatternKind) (p : Nat) (h : BitVec 2) : (s.notePatternRead k p h).refreshData = s.refreshData := rfl
@[simp] theorem State.notePatternRead_refreshLatch (k : PatternKind) (p : Nat) (h : BitVec 2) : (s.notePatternRead k p h).refreshLatch = s.refreshLatch := rfl
@[simp] theorem State.notePatternRead_xFine (k : PatternKind) (p : Nat) (h : BitVec 2) : (s.notePatternRead k p h).xFine = s.xFine := rfl
@[simp] theorem State.notePatternRead_bufferedData (k : PatternKind) (p : Nat) (h : BitVec 2) : (s.notePatternRead k p h).bufferedData = s.bufferedData := rfl
@[simp] theorem State.notePatternRead_dataLatch (k : PatternKind) (p : Nat) (h : BitVec 2) : (s.notePatternRead k p h).dataLatch = s.dataLatch := rfl
@[simp] theorem State.notePatternRead_scanline (k : PatternKind) (p : Nat) (h : BitVec 2) : (s.notePatternRead k p h).scanline = s.scanline := rfl
@[simp] theorem State.notePatternRead_dot (k : PatternKind) (p : Nat) (h : BitVec 2) : (s.notePatternRead k p h).dot = s.dot := rfl
@[simp] theorem State.notePatternRead_drawPhase (k : PatternKind) (p : Nat) (h : BitVec 2) : (s.notePatternRead k p h).drawPhase = s.drawPhase := rfl
@[simp] theorem State.notePatternRead_ntRam (k : PatternKind) (p : Nat) (h : BitVec 2) : (s.notePatternRead k p h).ntRam = s.ntRam := rfl
@[simp] theorem State.notePatternRead_paletteRam (k : PatternKind) (p : Nat) (h : BitVec 2) : (s.notePatternRead k p h).paletteRam = s.paletteRam := rfl
@[simp] theorem State.notePatternRead_oam (k : PatternKind) (p : Nat) (h : BitVec 2) : (s.notePatternRead k p h).oam = s.oam := rfl
@[simp] theorem State.notePatternRead_fb (k : PatternKind) (p : Nat) (h : BitVec 2) : (s.notePatternRead k p h).fb = s.fb := rfl
@[simp] theorem State.notePatternRead_line (k : PatternKind) (p : Nat) (h : BitVec 2) : (s.notePatternRead k p h).line = s.line := rfl
@[simp] theorem State.notePatternRead_nmiArmed (k : PatternKind) (p : Nat) (h : BitVec 2) : (s.notePatternRead k p h).nmiArmed = s.nmiArmed := rfl
@[simp] theorem State.notePatternRead_nmiSuppress (k : PatternKind) (p : Nat) (h : BitVec 2) : (s.notePatternRead k p h).nmiSuppress = s.nmiSuppress := rfl
@[simp] theorem State.notePatternRead_nmiTimer (k : PatternKind) (p : Nat) (h : BitVec 2) : (s.notePatternRead k p h).nmiTimer = s.nmiTimer := rfl
@[simp] theorem State.notePatternRead_hblankDone (k : PatternKind) (p : Nat) (h : BitVec 2) : (s.notePatternRead k p h).hblankDone = s.hblankDone := rfl
@[simp] theorem State.notePatternRead_outputs (k : PatternKind) (p : Nat) (h : BitVec 2) : (s.notePatternRead k p h).outputs = s.outputs := rfl
@[simp] theorem State.notePatternRead_reads (k : PatternKind) (p : Nat) (h : BitVec 2) : (s.notePatternRead k p h).reads = s.reads := rfl
@[simp] theorem State.notePatternRead_patternCalls (k : PatternKind) (p : Nat) (h : BitVec 2) : (s.notePatternRead k p h).patternCalls = s.patternCalls ++ [.read k s.drawPhase p h] := rfl
@[simp] theorem State.notePatternRead_chr (k : PatternKind) (p : Nat) (h : BitVec 2) : (s.notePatternRead k p h).chr = s.chr := rfl
@[simp] theorem State.notePatternRead_ext (k : PatternKind) (p : Nat) (h : BitVec 2) : (s.notePatternRead k p h).ext = s.ext := rfl
@[simp] theorem State.notePatternRead_draws (k : PatternKind) (p : Nat) (h : BitVec 2) : (s.notePatternRead k p h).draws = s.draws + 1 := rfl
@[simp] theorem State.notePatternRead_pending (k : PatternKind) (p : Nat) (h : BitVec 2) : (s.notePatternRead k p h).pending = s.pending := rfl

/-! ### takeNext -/

@[simp] theorem State.takeNext_variant : (s.takeNext).variant = s.variant := rfl
@[simp] theorem State.takeNext_patternModel : (s.takeNext).patternModel = s.patternModel := rfl
@[simp] theorem State.takeNext_control0 : (s.takeNext).control0 = s.control0 := rfl
@[simp] theorem State.takeNext_control1 : (s.takeNext).control1 = s.control1 := rfl
@[simp] theorem State.takeNext_status : (s.takeNext).status = s.status := rfl
@[simp] theorem State.takeNext_spriteAddress : (s.takeNext).spriteAddress = s.spriteAddress := rfl
@[simp] theorem State.takeNext_spriteData : (s.takeNext).spriteData = s.spriteData := rfl
@[simp] theorem State.takeNext_scroll : (s.takeNext).scroll = s.scroll := rfl
@[simp] theorem State.takeNext_address : (s.takeNext).address = s.address := rfl
@[simp] theorem State.takeNext_data : (s.takeNext).data = s.data := rfl
@[simp] theorem State.takeNext_toggle : (s.takeNext).toggle = s.toggle := rfl
@[simp] theorem State.takeNext_refreshData : (s.takeNext).refreshData = s.refreshData := rfl
@[simp] theorem State.takeNext_refreshLatch : (s.takeNext).refreshLatch = s.refreshLatch := rfl
@[simp] theorem State.takeNext_xFine : (s.takeNext).xFine = s.xFine := rfl
@[simp] theorem State.takeNext_bufferedData : (s.takeNext).bufferedData = s.bufferedData := rfl
@[simp] theorem State.takeNext_dataLatch : (s.takeNext).dataLatch = s.dataLatch := rfl
@[simp] theorem State.takeNext_scanline : (s.takeNext).scanline = s.scanline := rfl
@[simp] theorem State.takeNext_dot : (s.takeNext).dot = s.dot := rfl
@[simp] theorem State.takeNext_drawPhase : (s.takeNext).drawPhase = s.drawPhase := rfl
@[simp] theorem State.takeNext_ntRam : (s.takeNext).ntRam = s.ntRam := rfl
@[simp] theorem State.takeNext_paletteRam : (s.takeNext).paletteRam = s.paletteRam := rfl
@[simp] theorem State.takeNext_oam : (s.takeNext).oam = s.oam := rfl
@[simp] theorem State.takeNext_fb : (s.takeNext).fb = s.fb := rfl
@[simp] theorem State.takeNext_line : (s.takeNext).line = s.line := rfl
@[simp] theorem State.takeNext_nmiArmed : (s.takeNext).nmiArmed = s.nmiArmed := rfl
@[simp] theorem State.takeNext_nmiSuppress : (s.takeNext).nmiSuppress = s.nmiSuppress := rfl
@[simp] theorem State.takeNext_nmiTimer : (s.takeNext).nmiTimer = s.nmiTimer := rfl
@[simp] theorem State.takeNext_hblankDone : (s.takeNext).hblankDone = s.hblankDone := rfl
@[simp] theorem State.takeNext_outputs : (s.takeNext).outputs = s.outputs := rfl
@[simp] theorem State.takeNext_reads : (s.takeNext).reads = s.reads := rfl
@[simp] theorem State.takeNext_patternCalls : (s.takeNext).patternCalls = s.patternCalls := rfl
@[simp] theorem State.takeNext_chr : (s.takeNext).chr = s.chr := rfl
@[simp] theorem State.takeNext_ext : (s.takeNext).ext = s.ext := rfl
@[simp] theorem State.takeNext_draws : (s.takeNext).draws = s.draws := rfl
@[simp] theorem State.takeNext_pending : (s.takeNext).pending = s.pending.tail := rfl

/-! ### present -/

@[simp] theorem State.present_variant (w : Word) : (s.present w).variant = s.variant := rfl
@[simp] theorem State.present_patternModel (w : Word) : (s.present w).patternModel = s.patternModel := rfl
@[simp] theorem State.present_control0 (w : Word) : (s.present w).control0 = s.control0 := rfl
@[simp] theorem State.present_control1 (w : Word) : (s.present w).control1 = s.control1 := rfl
@[simp] theorem State.present_status (w : Word) : (s.present w).status = s.status := rfl
@[simp] theorem State.present_spriteAddress (w : Word) : (s.present w).spriteAddress = s.spriteAddress := rfl
@[simp] theorem State.present_spriteData (w : Word) : (s.present w).spriteData = s.spriteData := rfl
@[simp] theorem State.present_scroll (w : Word) : (s.present w).scroll = s.scroll := rfl
@[simp] theorem State.present_address (w : Word) : (s.present w).address = s.address := rfl
@[simp] theorem State.present_data (w : Word) : (s.present w).data = s.data := rfl
@[simp] theorem State.present_toggle (w : Word) : (s.present w).toggle = s.toggle := rfl
@[simp] theorem State.present_refreshData (w : Word) : (s.present w).refreshData = s.refreshData := rfl
@[simp] theorem State.present_refreshLatch (w : Word) : (s.present w).refreshLatch = s.refreshLatch := rfl
@[simp] theorem State.present_xFine (w : Word) : (s.present w).xFine = s.xFine := rfl
@[simp] theorem State.present_bufferedData (w : Word) : (s.present w).bufferedData = s.bufferedData := rfl
@[simp] theorem State.present_dataLatch (w : Word) : (s.present w).dataLatch = s.dataLatch := rfl
@[simp] theorem State.present_scanline (w : Word) : (s.present w).scanline = s.scanline := rfl
@[simp] theorem State.present_dot (w : Word) : (s.present w).dot = s.dot := rfl
@[simp] theorem State.present_drawPhase (w : Word) : (s.present w).drawPhase = s.drawPhase := rfl
@[simp] theorem State.present_ntRam (w : Word) : (s.present w).ntRam = s.ntRam := rfl
@[simp] theorem State.present_paletteRam (w : Word) : (s.present w).paletteRam = s.paletteRam := rfl
@[simp] theorem State.present_oam (w : Word) : (s.present w).oam = s.oam := rfl
@[simp] theorem State.present_fb (w : Word) : (s.present w).fb = s.fb := rfl
@[simp] theorem State.present_line (w : Word) : (s.present w).line = s.line := rfl
@[simp] theorem State.present_nmiArmed (w : Word) : (s.present w).nmiArmed = s.nmiArmed := rfl
@[simp] theorem State.present_nmiSuppress (w : Word) : (s.present w).nmiSuppress = s.nmiSuppress := rfl
@[simp] theorem State.present_nmiTimer (w : Word) : (s.present w).nmiTimer = s.nmiTimer := rfl
@[simp] theorem State.present_hblankDone (w : Word) : (s.present w).hblankDone = s.hblankDone := rfl
@[simp] theorem State.present_outputs (w : Word) : (s.present w).outputs = s.outputs := rfl
@[simp] theorem State.present_reads (w : Word) : (s.present w).reads = s.reads := rfl
@[simp] theorem State.present_patternCalls (w : Word) : (s.present w).patternCalls = s.patternCalls := rfl
@[simp] theorem State.present_chr (w : Word) : (s.present w).chr = s.chr := rfl
@[simp] theorem State.present_ext (w : Word) : (s.present w).ext = s.ext := rfl
@[simp] theorem State.present_draws (w : Word) : (s.present w).draws = s.draws := rfl
@[simp] theorem State.present_pending (w : Word) : (s.present w).pending = w :: s.pending := rfl

/-! ### writeByte -/

@[simp] theorem State.writeByte_variant (sp : Space) (a : Nat) (v : Byte) : (s.writeByte sp a v).variant = s.variant := by cases sp <;> rfl
@[simp] theorem State.writeByte_patternModel (sp : Space) (a : Nat) (v : Byte) : (s.writeByte sp a v).patternModel = s.patternModel := by cases sp <;> rfl
@[simp] theorem State.writeByte_control0 (sp : Space) (a : Nat) (v : Byte) : (s.writeByte sp a v).control0 = s.control0 := by cases sp <;> rfl
@[simp] theorem State.writeByte_control1 (sp : Space) (a : Nat) (v : Byte) : (s.writeByte sp a v).control1 = s.control1 := by cases sp <;> rfl
@[simp] theorem State.writeByte_status (sp : Space) (a : Nat) (v : Byte) : (s.writeByte sp a v).status = s.status := by cases sp <;> rfl
@[simp] theorem State.writeByte_spriteAddress (sp : Space) (a : Nat) (v : Byte) : (s.writeByte sp a v).spriteAddress = s.spriteAddress := by cases sp <;> rfl
@[simp] theorem State.writeByte_spriteData (sp : Space) (a : Nat) (v : Byte) : (s.writeByte sp a v).spriteData = s.spriteData := by cases sp <;> rfl
@[simp] theorem State.writeByte_scroll (sp : Space) (a : Nat) (v : Byte) : (s.writeByte sp a v).scroll = s.scroll := by cases sp <;> rfl
@[simp] theorem State.writeByte_address (sp : Space) (a : Nat) (v : Byte) : (s.writeByte sp a v).address = s.address := by cases sp <;> rfl
@[simp] theorem State.writeByte_data (sp : Space) (a : Nat) (v : Byte) : (s.writeByte sp a v).data = s.data := by cases sp <;> rfl
@[simp] theorem State.writeByte_toggle (sp : Space) (a : Nat) (v : Byte) : (s.writeByte sp a v).toggle = s.toggle := by cases sp <;> rfl
@[simp] theorem State.writeByte_refreshData (sp : Space) (a : Nat) (v : Byte) : (s.writeByte sp a v).refreshData = s.refreshData := by cases sp <;> rfl
@[simp] theorem State.writeByte_refreshLatch (sp : Space) (a : Nat) (v : Byte) : (s.writeByte sp a v).refreshLatch = s.refreshLatch := by cases sp <;> rfl
@[simp] theorem State.writeByte_xFine (sp : Space) (a : Nat) (v : Byte) : (s.writeByte sp a v).xFine = s.xFine := by cases sp <;> rfl
@[simp] theorem State.writeByte_bufferedData (sp : Space) (a : Nat) (v : Byte) : (s.writeByte sp a v).bufferedData = s.bufferedData := by cases sp <;> rfl
@[simp] theorem State.writeByte_dataLatch (sp : Space) (a : Nat) (v : Byte) : (s.writeByte sp a v).dataLatch = s.dataLatch := by cases sp <;> rfl
@[simp] theorem State.writeByte_scanline (sp : Space) (a : Nat) (v : Byte) : (s.writeByte sp a v).scanline = s.scanline := by cases sp <;> rfl
@[simp] theorem State.writeByte_dot (sp : Space) (a : Nat) (v : Byte) : (s.writeByte sp a v).dot = s.dot := by cases sp <;> rfl
@[simp] theorem State.writeByte_drawPhase (sp : Space) (a : Nat) (v : Byte) : (s.writeByte sp a v).drawPhase = s.drawPhase := by cases sp <;> rfl
@[simp] theorem State.writeByte_fb (sp : Space) (a : Nat) (v : Byte) : (s.writeByte sp a v).fb = s.fb := by cases sp <;> rfl
@[simp] theorem State.writeByte_line (sp : Space) (a : Nat) (v : Byte) : (s.writeByte sp a v).line = s.line := by cases sp <;> rfl
@[simp] theorem State.writeByte_nmiArmed (sp : Space) (a : Nat) (v : Byte) : (s.writeByte sp a v).nmiArmed = s.nmiArmed := by cases sp <;> rfl
@[simp] theorem State.writeByte_nmiSuppress (sp : Space) (a : Nat) (v : Byte) : (s.writeByte sp a v).nmiSuppress = s.nmiSuppress := by cases sp <;> rfl
@[simp] theorem State.writeByte_nmiTimer (sp : Space) (a : Nat) (v : Byte) : (s.writeByte sp a v).nmiTimer = s.nmiTimer := by cases sp <;> rfl
@[simp] theorem State.writeByte_hblankDone (sp : Space) (a : Nat) (v : Byte) : (s.writeByte sp a v).hblankDone = s.hblankDone := by cases sp <;> rfl
@[simp] theorem State.writeByte_outputs (sp : Space) (a : Nat) (v : Byte) : (s.writeByte sp a v).outputs = s.outputs := by cases sp <;> rfl
@[simp] theorem State.writeByte_reads (sp : Space) (a : Nat) (v : Byte) : (s.writeByte sp a v).reads = s.reads := by cases sp <;> rfl
@[simp] theorem State.writeByte_patternCalls (sp : Space) (a : Nat) (v : Byte) : (s.writeByte sp a v).patternCalls = s.patternCalls := by cases sp <;> rfl
@[simp] theorem State.writeByte_chr (sp : Space) (a : Nat) (v : Byte) : (s.writeByte sp a v).chr = s.chr := by cases sp <;> rfl
@[simp] theorem State.writeByte_ext (sp : Space) (a : Nat) (v : Byte) : (s.writeByte sp a v).ext = s.ext := by cases sp <;> rfl
@[simp] theorem State.writeByte_draws (sp : Space) (a : Nat) (v : Byte) : (s.writeByte sp a v).draws = s.draws := by cases sp <;> rfl
@[simp] theorem State.writeByte_pending (sp : Space) (a : Nat) (v : Byte) : (s.writeByte sp a v).pending = s.pending := by cases sp <;> rfl
@[simp] theorem State.writeByte_nametable_ntRam (a : Nat) (v : Byte) : (s.writeByte .nametable a v).ntRam = Cells.store s.ntRam a v := rfl
@[simp] theorem State.writeByte_nametable_paletteRam (a : Nat) (v : Byte) : (s.writeByte .nametable a v).paletteRam = s.paletteRam := rfl
@[simp] theorem State.writeByte_nametable_oam (a : Nat) (v : Byte) : (s.writeByte .nametable a v).oam = s.oam := rfl
@[simp] theorem State.writeByte_palette_ntRam (a : Nat) (v : Byte) : (s.writeByte .palette a v).ntRam = s.ntRam := rfl
@[simp] theorem State.writeByte_palette_paletteRam (a : Nat) (v : Byte) : (s.writeByte .palette a v).paletteRam = Cells.store s.paletteRam a v := rfl
@[simp] theorem State.writeByte_palette_oam (a : Nat) (v : Byte) : (s.writeByte .palette a v).oam = s.oam := rfl
@[simp] theorem State.writeByte_oam_ntRam (a : Nat) (v : Byte) : (s.writeByte .oam a v).ntRam = s.ntRam := rfl
@[simp] theorem State.writeByte_oam_paletteRam (a : Nat) (v : Byte) : (s.writeByte .oam a v).paletteRam = s.paletteRam := rfl
@[simp] theorem State.writeByte_oam_oam (a : Nat) (v : Byte) : (s.writeByte .oam a v).oam = Cells.store s.oam a v := rfl

end Sys2Proof.Machine
end

