-- ==== Sys2Proof/Laws/Cells.lean ====
section
/-! SUPPORT. Laws of cells by address and of the block's byte memories: read after write, and the canonical form. -/

namespace Sys2Proof.Machine

namespace Cells

variable {β : Type}

/-- A read of the address just stored to. -/
@[simp] theorem lookup_store_same (m : List (Nat × β)) (a : Nat) (v : β) : lookup (store m a v) a = some v := by
  induction m with
  | nil => simp [store, lookup]
  | cons c rest ih =>
    obtain ⟨k, w⟩ := c
    simp only [store]
    split
    · simp [lookup]
    split
    · simp [lookup]
    · next h => simp [lookup, h, ih]

/-- A read of any other address. -/
theorem lookup_store_ne (m : List (Nat × β)) {a b : Nat} (v : β) (h : b ≠ a) :
    lookup (store m a v) b = lookup m b := by
  induction m with
  | nil => simp [store, lookup, h]
  | cons c rest ih =>
    obtain ⟨k, w⟩ := c
    simp only [store]
    split
    · simp [lookup, h]
    split
    · next h1 h2 => subst h2; simp [lookup, h]
    · simp [lookup, ih]

/-- Storing at an address twice leaves what the second store stored. -/
@[simp] theorem store_store_same (m : List (Nat × β)) (a : Nat) (v w : β) : store (store m a v) a w = store m a w := by
  induction m with
  | nil => simp [store]
  | cons c rest ih =>
    obtain ⟨k, u⟩ := c
    simp only [store]
    split
    · simp [store]
    split
    · simp [store]
    · next h1 h2 => simp only [store, if_neg h1, if_neg h2, ih]

/-- An entry that a store would leave as it is stays so after a store elsewhere. -/
theorem store_fixed_store {m : List (Nat × β)} {a b : Nat} {v : β} (w : β) (hf : store m a v = m)
    (h : b ≠ a) : store (store m b w) a v = store m b w := by
  induction m with
  | nil => simp [store] at hf
  | cons c m ih =>
    obtain ⟨k, x⟩ := c
    simp only [store] at hf ⊢
    by_cases h1 : a < k
    · rw [if_pos h1] at hf
      exfalso
      have := congrArg List.length hf
      simp at this
    rw [if_neg h1] at hf
    by_cases h2 : a = k
    · rw [if_pos h2] at hf
      by_cases h3 : b < k
      · rw [if_pos h3]; simp only [store]
        rw [if_neg (by omega), if_neg (by omega), if_neg (by omega), if_pos h2, hf]
      · rw [if_neg h3, if_neg (by omega)]
        simp only [store]
        rw [if_neg h1, if_pos h2]
        simp at hf; rw [hf.1, hf.2]
    · rw [if_neg h2] at hf
      simp at hf
      by_cases h3 : b < k
      · rw [if_pos h3]; simp only [store]
        rw [if_neg (by omega), if_neg (by omega), if_neg h1, if_neg h2, hf]
      · by_cases h4 : b = k
        · rw [if_neg h3, if_pos h4]; simp only [store]
          rw [if_neg (by omega), if_neg (by omega), hf]
        · rw [if_neg h3, if_neg h4]; simp only [store]
          rw [if_neg h1, if_neg h2, ih hf]

/-- The entries of a store: the new one, and old ones. -/
theorem mem_store {m : List (Nat × β)} {a : Nat} {v : β} {c : Nat × β} (h : c ∈ store m a v) :
    c = (a, v) ∨ c ∈ m := by
  induction m with
  | nil => simpa [store] using h
  | cons d rest ih =>
    obtain ⟨k, w⟩ := d
    simp only [store] at h
    split at h
    · simpa using h
    split at h
    · simp only [List.mem_cons] at h ⊢; tauto
    · simp only [List.mem_cons] at h ⊢
      rcases h with h | h
      · tauto
      · rcases ih h with h | h <;> tauto

/-- A store at an address in range keeps the canonical form. -/
theorem store_canonical {size : Nat} {m : List (Nat × β)} {a : Nat} (v : β) (hm : Canonical size m) (ha : a < size) :
    Canonical size (store m a v) := by
  refine ⟨?_, fun c hc => ?_⟩
  · induction m with
    | nil => simp [store]
    | cons c rest ih =>
      obtain ⟨k, w⟩ := c
      obtain ⟨hp, hb⟩ := hm
      rw [List.pairwise_cons] at hp
      simp only [store]
      split
      · next h =>
        refine List.pairwise_cons.2 ⟨fun d hd => ?_, List.pairwise_cons.2 hp⟩
        rcases List.mem_cons.1 hd with rfl | hd
        · exact h
        · exact lt_trans h (hp.1 d hd)
      split
      · next _ h => subst h; exact List.pairwise_cons.2 ⟨fun d hd => hp.1 d hd, hp.2⟩
      · next h1 h2 =>
        refine List.pairwise_cons.2 ⟨fun d hd => ?_, ih ⟨hp.2, fun c hc => hb c (List.mem_cons_of_mem _ hc)⟩⟩
        rcases mem_store hd with rfl | hd
        · show k < a
          omega
        · exact hp.1 d hd
  · rcases mem_store hc with rfl | hc
    · exact ha
    · exact hm.2 c hc

theorem canonical_nil (size : Nat) : Canonical size ([] : List (Nat × β)) := by simp [Canonical]

end Cells

variable (s : State)

@[simp] theorem State.memory_writeByte_same (sp : Space) (a : Nat) (v : Byte) :
    (s.writeByte sp a v).memory sp = Cells.store (s.memory sp) a v := by cases sp <;> rfl

theorem State.memory_writeByte_ne {sp sp' : Space} (a : Nat) (v : Byte) (h : sp' ≠ sp) :
    (s.writeByte sp a v).memory sp' = s.memory sp' := by
  cases sp <;> cases sp' <;> first | rfl | exact absurd rfl h

/-- A byte written is the byte read back. -/
@[simp] theorem State.readByte_writeByte_same (sp : Space) (a : Nat) (v : Byte) :
    (s.writeByte sp a v).readByte sp a = v := by simp [State.readByte]

/-- A write leaves every other cell alone. -/
theorem State.readByte_writeByte_ne {sp sp' : Space} {a b : Nat} (v : Byte) (h : sp' ≠ sp ∨ b ≠ a) :
    (s.writeByte sp a v).readByte sp' b = s.readByte sp' b := by
  by_cases hs : sp' = sp
  · subst hs
    have hb : b ≠ a := by tauto
    simp [State.readByte, Cells.lookup_store_ne _ v hb]
  · simp [State.readByte, State.memory_writeByte_ne s a v hs]

/-- Two states with the same memories read the same bytes. -/
theorem State.readByte_congr {s t : State} (h1 : t.ntRam = s.ntRam) (h2 : t.paletteRam = s.paletteRam)
    (h3 : t.oam = s.oam) (sp : Space) (a : Nat) : t.readByte sp a = s.readByte sp a := by
  cases sp <;> simp [State.readByte, State.memory, h1, h2, h3]

end Sys2Proof.Machine
end

