-- ==== Sys2Proof/Laws/Resolver.lean ====
section
/-! SUPPORT. Laws of the resolver: ranges, the palette fold, the mirror at 0x3000. -/

namespace Sys2Proof.Machine

theorem palMirror_lt (i : Nat) : palMirror i < 32 := by
  unfold palMirror; split <;> omega

theorem palMirror_mod (i : Nat) : palMirror (i % 32) = palMirror i := by
  unfold palMirror
  have h : i % 32 % 4 = i % 4 := by omega
  simp [h]

/-- The palette fold is idempotent: it lands on the 28 stored cells. -/
@[simp] theorem palMirror_idem (i : Nat) : palMirror (palMirror i) = palMirror i := by
  unfold palMirror
  split
  · next h => rw [if_neg (by omega)]; omega
  · next h => rw [if_neg (by omega)]; omega

theorem ntFold_lt (m : Mirroring) {sel : Nat} (h : sel < 4) : ntFold m sel < 4 := by
  cases m <;> simp only [ntFold] <;> omega

theorem ntSelect_lt (a : Nat) : ntSelect a < 4 := by
  unfold ntSelect; exact Nat.mod_lt _ (by decide)

theorem ntOffset_lt (a : Nat) : ntOffset a < Layout.bankSize := by
  unfold ntOffset; exact Nat.mod_lt _ (by decide)

theorem ntKey_lt {b o : Nat} (hb : b < 4) (ho : o < Layout.bankSize) : ntKey b o < 4 * Layout.bankSize := by
  simp only [ntKey, Layout.bankSize] at *; omega

theorem ntAddress_lt (m : Mirroring) (a : Nat) : ntAddress m a < 4 * Layout.bankSize :=
  ntKey_lt (ntFold_lt m (ntSelect_lt a)) (ntOffset_lt a)

/-- Everything `resolve` can answer. -/
theorem resolve_cases (m : Mirroring) (a : Nat) :
    (a % 0x4000 < 0x2000 ∧ resolve m a = .pattern (a % 0x4000)) ∨
    (0x2000 ≤ a % 0x4000 ∧ a % 0x4000 < 0x3F00 ∧ resolve m a = .nt (ntFold m (ntSelect a)) (ntOffset a)) ∨
    (0x3F00 ≤ a % 0x4000 ∧ resolve m a = .palette (palMirror a)) := by
  simp only [resolve, Layout.vramSize, Layout.ntBase, Layout.paletteBase]
  by_cases h1 : a % 16384 < 8192
  · exact .inl ⟨h1, by simp [h1]⟩
  by_cases h2 : a % 16384 < 16128
  · exact .inr (.inl ⟨by omega, h2, by simp [h1, h2]⟩)
  · exact .inr (.inr ⟨by omega, by simp [h1, h2]⟩)

end Sys2Proof.Machine
end

