-- ==== Sys2Proof/Laws/Ops.lean ====
section
/-! SUPPORT. One lemma per shared operation that says everything it can do: the oracles, the accesses through the
resolver, the rendering procedures and the events change only what is named here. -/

namespace Sys2Proof.Machine

/-! ### What a fetch can change -/

/-- `t` is `s` but for the record of pattern reads and the count of draws. -/
def FetchOnly (s t : State) : Prop := t = { s with patternCalls := t.patternCalls, draws := t.draws }

theorem FetchOnly.refl (s : State) : FetchOnly s s := rfl

theorem FetchOnly.trans {s t u : State} (h1 : FetchOnly s t) (h2 : FetchOnly t u) : FetchOnly s u := by
  unfold FetchOnly at *
  rw [h2, h1]

theorem chrRead_fetchOnly (k : PatternKind) (p : Nat) (h : BitVec 2) (s : State) : FetchOnly s (chrRead k p h s).2 := rfl

/-- `VramRead` answers a byte of the block, or an oracle's, and changes only what a fetch can. -/
theorem vramRead_fetchOnly (a : Nat) (s : State) : FetchOnly s (vramRead a s).2 := by
  rcases resolve_cases s.variant.mirroring a with ⟨_, h⟩ | ⟨_, _, h⟩ | ⟨_, h⟩ <;> simp only [vramRead, h]
  · exact chrRead_fetchOnly _ _ _ _
  · exact FetchOnly.refl s
  · exact FetchOnly.refl s

/-- The background calls `VramRead` with nametable addresses only, for which it equals `NtRead` (R80). -/
theorem vramRead_nametable {a : Nat} (s : State) (h1 : 0x2000 ≤ a) (h2 : a < 0x3F00) : vramRead a s = (s.ntRead a, s) := by
  have h3 : a % 0x4000 = a := Nat.mod_eq_of_lt (by omega)
  rcases resolve_cases s.variant.mirroring a with ⟨h, _⟩ | ⟨_, _, h⟩ | ⟨h, _⟩
  · omega
  · simp only [vramRead, h]; rfl
  · omega

theorem prefetch_fetchOnly (s : State) : FetchOnly s s.prefetch.2 := by
  unfold State.prefetch
  split
  · exact FetchOnly.refl s
  · exact vramRead_fetchOnly _ _

/-! ### `VramWrite` -/

/-- Everything `VramWrite` can do: hand the byte to the collaborator, or store it in the resolved cell. -/
theorem vramWrite_cases (a : Nat) (v : Byte) (s : State) :
    (a % 0x4000 < 0x2000 ∧ vramWrite a v s = chrWrite (a % 0x4000) v s) ∨
    (0x2000 ≤ a % 0x4000 ∧ a % 0x4000 < 0x3F00 ∧ vramWrite a v s = s.ntWrite a v) ∨
    (0x3F00 ≤ a % 0x4000 ∧ vramWrite a v s = s.palWrite a v) := by
  rcases resolve_cases s.variant.mirroring a with ⟨h0, h⟩ | ⟨h0, h1, h⟩ | ⟨h0, h⟩
  · exact .inl ⟨h0, by simp only [vramWrite, h]⟩
  · exact .inr (.inl ⟨h0, h1, by simp only [vramWrite, h]; rfl⟩)
  · exact .inr (.inr ⟨h0, by simp only [vramWrite, h]; rfl⟩)

/-! ### The background -/

theorem fetchColumn_fetchOnly (fy cy nt cx : Nat) (s : State) : FetchOnly s (fetchColumn fy cy nt cx s).2 := by
  simp only [fetchColumn]
  exact (vramRead_fetchOnly _ _).trans ((vramRead_fetchOnly _ _).trans
    ((chrRead_fetchOnly _ _ _ _).trans (chrRead_fetchOnly _ _ _ _)))

theorem fetchColumns_fetchOnly (fy cy n nt cx : Nat) (s : State) : FetchOnly s (fetchColumns fy cy n nt cx s).2 := by
  induction n generalizing nt cx s with
  | zero => exact FetchOnly.refl s
  | succ n ih => exact (fetchColumn_fetchOnly _ _ _ _ _).trans (ih _ _ _)

@[simp] theorem fetchColumns_length (fy cy n nt cx : Nat) (s : State) :
    (fetchColumns fy cy n nt cx s).1.length = n := by
  induction n generalizing nt cx s with
  | zero => rfl
  | succ n ih => simp [fetchColumns, ih]

theorem fetchLine_fetchOnly (s : State) : FetchOnly s (fetchLine s).2 := fetchColumns_fetchOnly _ _ _ _ _ _

@[simp] theorem fetchLine_length (s : State) : (fetchLine s).1.length = Layout.columnsPerLine :=
  fetchColumns_length _ _ _ _ _ _

/-- `t` is `s` but for the line buffers and what a fetch can change. -/
def LineOnly (s t : State) : Prop :=
  t = { s with patternCalls := t.patternCalls, draws := t.draws, line := t.line }

theorem FetchOnly.lineOnly {s t : State} (h : FetchOnly s t) (l : LineBuffers) : LineOnly s { t with line := l } := by
  unfold FetchOnly at h
  unfold LineOnly
  rw [h]

theorem LineOnly.trans {s t u : State} (h1 : LineOnly s t) (h2 : LineOnly t u) : LineOnly s u := by
  unfold LineOnly at *
  rw [h2, h1]

/-- `BgLine` changes the line buffers and what a fetch can, nothing else; it sets no flag (R200). -/
theorem bgLine_lineOnly (s : State) : LineOnly s (bgLine s) := by
  unfold bgLine
  split
  · exact (fetchLine_fetchOnly s).lineOnly _
  · rfl

/-! ### The sprite engine -/

/-- `t` is `s` but for the line buffers, STATUS and what a fetch can change. -/
def LineStatusOnly (s t : State) : Prop :=
  t = { s with patternCalls := t.patternCalls, draws := t.draws, line := t.line, status := t.status }

theorem LineStatusOnly.trans {s t u : State} (h1 : LineStatusOnly s t) (h2 : LineStatusOnly t u) :
    LineStatusOnly s u := by
  unfold LineStatusOnly at *
  rw [h2, h1]

theorem LineOnly.lineStatusOnly {s t : State} (h : LineOnly s t) : LineStatusOnly s t := by
  unfold LineOnly at h
  unfold LineStatusOnly
  rw [h]

theorem fetchSlot_fetchOnly (y : Nat) (k : SpriteSlot) (s : State) : FetchOnly s (fetchSlot y k s).2 :=
  (chrRead_fetchOnly _ _ _ _).trans (chrRead_fetchOnly _ _ _ _)

theorem fetchSlots_fetchOnly (y : Nat) (ks : List SpriteSlot) (s : State) : FetchOnly s (fetchSlots y ks s).2 := by
  induction ks generalizing s with
  | nil => exact FetchOnly.refl s
  | cons k ks ih => exact (fetchSlot_fetchOnly y k s).trans (ih _)

/-- The fetch keeps which sprites are selected, in order, with their attributes and positions. -/
theorem fetchSlots_sel (y : Nat) (ks : List SpriteSlot) (s : State) :
    (fetchSlots y ks s).1.map (fun k => (k.sel, k.attr, k.x)) = ks.map (fun k => (k.sel, k.attr, k.x)) := by
  induction ks generalizing s with
  | nil => rfl
  | cons k ks ih => simp only [fetchSlots, List.map_cons, ih]; rfl

theorem sprFetch_lineOnly (y : Nat) (s : State) : LineOnly s (sprFetch y s) :=
  (fetchSlots_fetchOnly y s.line.sprites s).lineOnly _

theorem sprEval_lineStatusOnly (y : Nat) (s : State) : LineStatusOnly s (sprEval y s) := rfl

theorem sprComposite_lineStatusOnly (s : State) : LineStatusOnly s (sprComposite s) := rfl

theorem selectSprites_lineStatusOnly (y : Nat) (s : State) : LineStatusOnly s (selectSprites y s) := by
  unfold selectSprites
  split <;> rfl

theorem spriteStage_lineStatusOnly (y : Nat) (s : State) : LineStatusOnly s (spriteStage y s) :=
  (selectSprites_lineStatusOnly y s).trans ((sprFetch_lineOnly y _).lineStatusOnly.trans (by rfl))

/-- `SprLine` changes the line buffers, the two flags and what a fetch can; never OAM or the cursor (R163, R230). -/
theorem sprLine_lineStatusOnly (y : Nat) (s : State) : LineStatusOnly s (sprLine y s) := by
  unfold sprLine
  split
  · exact (spriteStage_lineStatusOnly y s).trans (sprComposite_lineStatusOnly _)
  · exact spriteStage_lineStatusOnly y s

/-! ### A rendered scanline -/

/-- `t` is `s` but for what rendering can change: the line buffers, STATUS, the running address, the draw phase, the
framebuffer, the outputs and what a fetch can. -/
def RenderOnly (s t : State) : Prop :=
  t = { s with
    patternCalls := t.patternCalls, draws := t.draws, line := t.line, status := t.status
    refreshData := t.refreshData, drawPhase := t.drawPhase, fb := t.fb, outputs := t.outputs }

theorem RenderOnly.trans {s t u : State} (h1 : RenderOnly s t) (h2 : RenderOnly t u) : RenderOnly s u := by
  unfold RenderOnly at *
  rw [h2, h1]

theorem LineStatusOnly.renderOnly {s t : State} (h : LineStatusOnly s t) : RenderOnly s t := by
  unfold LineStatusOnly at h
  unfold RenderOnly
  rw [h]

theorem startLine_renderOnly (s : State) : RenderOnly s (startLine s) := by
  unfold startLine horizontalReload
  split <;> rfl

theorem backgroundStage_renderOnly (s : State) : RenderOnly s (backgroundStage s) :=
  (startLine_renderOnly s).trans ((bgLine_lineOnly _).lineStatusOnly.renderOnly.trans (by rfl))

theorem incrementY_renderOnly (s : State) : RenderOnly s (incrementY s) := by
  unfold incrementY
  split <;> rfl

/-- Rendering a scanline changes nothing else: no memory, no register slot but STATUS, no address latch (R177). -/
theorem renderScanline_renderOnly (y : Nat) (s : State) : RenderOnly s (renderScanline y s) :=
  (backgroundStage_renderOnly s).trans ((sprLine_lineStatusOnly y _).renderOnly.trans
    (RenderOnly.trans (t := colorOut y (sprLine y (backgroundStage s))) (by rfl) (incrementY_renderOnly _)))

/-! ### The DMA -/

/-- One byte of a DMA: OAM and the count of draws change. -/
theorem dmaByte_eq (page : Byte) (i : Nat) (s : State) : dmaByte page i s =
    { s with oam := Cells.store s.oam (dmaTarget s.spriteAddress i) (s.extAnswer (page.toNat * 0x100 + i)),
             draws := s.draws + 1 } := rfl

/-- A DMA changes OAM and the count of draws, nothing else. -/
theorem dmaCopy_eq (page : Byte) (n : Nat) (s : State) :
    dmaCopy page n s = { s with oam := (dmaCopy page n s).oam, draws := s.draws + n } := by
  induction n with
  | zero => rfl
  | succ n ih =>
    rw [dmaCopy, dmaByte_eq, ih]
    simp [Nat.add_assoc]

/-- After a page is copied, storing one of its bytes again changes nothing. -/
theorem dmaCopy_store_fixed (page : Byte) (s : State) (v : Nat → Byte) (n : Nat) (hn : n ≤ 256)
    (hv : ∀ i < n, Cells.lookup s.ext (page.toNat * 256 + i) = some (v i)) :
    ∀ i < n, Cells.store (dmaCopy page n s).oam (dmaTarget s.spriteAddress i) (v i) = (dmaCopy page n s).oam := by
  induction n with
  | zero => simp
  | succ n ih =>
    intro i hi
    have h1 := ih (by omega) fun i hi => hv i (by omega)
    have hs : (dmaCopy page (n + 1) s).oam = Cells.store (dmaCopy page n s).oam (dmaTarget s.spriteAddress n) (v n) := by
      rw [dmaCopy, dmaByte_eq, State.extAnswer, dmaCopy_eq]
      simp [hv n (by omega)]
    rw [hs]
    by_cases e : i = n
    · subst e; exact Cells.store_store_same ..
    · refine Cells.store_fixed_store _ (h1 i (by omega)) ?_
      simp only [dmaTarget, Layout.oamSize]; omega

/-- A page whose bytes are known and stand in OAM already is copied without a change of OAM. -/
theorem dmaCopy_again (page : Byte) (t : State) (v : Nat → Byte) (n : Nat)
    (hv : ∀ i < n, Cells.lookup t.ext (page.toNat * 256 + i) = some (v i))
    (hf : ∀ i < n, Cells.store t.oam (dmaTarget t.spriteAddress i) (v i) = t.oam) :
    dmaCopy page n t = { t with draws := t.draws + n } := by
  induction n with
  | zero => rfl
  | succ n ih =>
    rw [dmaCopy, ih (fun i hi => hv i (by omega)) (fun i hi => hf i (by omega))]
    simp [dmaByte, extRead, State.extAnswer, State.writeByte, hv n (by omega), hf n (by omega), Nat.add_assoc]

end Sys2Proof.Machine
end

