-- ==== Sys2Proof/Laws/Background.lean ====
section
/-! SUPPORT. Laws of the background pipeline: what a column fetches, where its pixels land, the shape of the line. -/

namespace Sys2Proof.Machine

theorem flatMap_eight_length {α β : Type} (f : α → List β) (h : ∀ a, (f a).length = 8) (l : List α) :
    (l.flatMap f).length = 8 * l.length := by
  induction l with
  | nil => rfl
  | cons a l ih => simp [List.flatMap_cons, h, ih]; omega

/-- Element `i` of lists of eight put in a row. -/
theorem flatMap_eight_getElem {α β : Type} (f : α → List β) (h : ∀ a, (f a).length = 8) (l : List α) (i : Nat) :
    (l.flatMap f)[i]? = (l[i / 8]?).bind fun a => (f a)[i % 8]? := by
  induction l generalizing i with
  | nil => simp
  | cons a l ih =>
    rw [List.flatMap_cons, List.getElem?_append]
    by_cases hi : i < 8
    · rw [if_pos (by rw [h]; exact hi)]
      have e1 : i / 8 = 0 := by omega
      have e2 : i % 8 = i := by omega
      simp [e1, e2]
    · rw [if_neg (by rw [h]; exact hi), ih, h]
      have e1 : i / 8 = (i - 8) / 8 + 1 := by omega
      have e2 : (i - 8) % 8 = i % 8 := by omega
      rw [e1, e2, List.getElem?_cons_succ]

@[simp] theorem Column.length_pixels (c : Column) : c.pixels.length = 8 := by simp [Column.pixels]

@[simp] theorem Column.length_groups (c : Column) : c.groups.length = 8 := by simp [Column.groups]

theorem toScreen_length {α : Type} (x : BitVec 3) (l : List α) (h : 263 ≤ l.length) : (toScreen x l).length = Layout.screenWidth := by
  have := x.isLt
  simp [toScreen, Layout.screenWidth]; omega

/-- Screen column `i` shows element `i + x_fine` of the stream (R207). -/
theorem toScreen_getElem {α : Type} (x : BitVec 3) (l : List α) (i : Nat) (h : i < 256) : (toScreen x l)[i]? = l[i + x.toNat]? := by
  simp [toScreen, Layout.screenWidth, h, Nat.add_comm]

theorem clipBackground_length (s : State) (l : List (BitVec 2)) (h : l.length = Layout.screenWidth) : (s.clipBackground l).length = Layout.screenWidth := by
  simp only [State.clipBackground]; split
  · exact h
  · simp [clipLeft, Layout.clipWidth, h, Layout.screenWidth]

/-- Clipping leaves the columns outside 0 .. 7, and all of them with BG_L8 set (R210). -/
theorem clipBackground_getElem (s : State) (l : List (BitVec 2)) (i : Nat) (h : s.bgL8 = true ∨ 8 ≤ i) : (s.clipBackground l)[i]? = l[i]? := by
  simp only [State.clipBackground]; split
  · rfl
  · next hb => 
    simp only [Bool.not_eq_true] at hb
    have hi : 8 ≤ i := by simpa [hb] using h
    rw [clipLeft, List.getElem?_append_right (by simpa [Layout.clipWidth] using hi)]
    simp only [Layout.clipWidth, List.length_replicate, List.getElem?_drop]; congr 1; omega

theorem fetchLine_pixels_length (s : State) : 263 ≤ ((fetchLine s).1.flatMap Column.pixels).length := by
  rw [flatMap_eight_length _ Column.length_pixels, fetchLine_length]; decide

theorem fetchLine_groups_length (s : State) : 263 ≤ ((fetchLine s).1.flatMap Column.groups).length := by
  rw [flatMap_eight_length _ Column.length_groups, fetchLine_length]; decide

/-- A background line has one entry per pixel, opaque exactly where the colour index is not 0 (R50, R51, R211). -/
theorem bgLine_lengths (s : State) :
   (bgLine s).line.bgPix.length = 256 ∧ (bgLine s).line.bgGroup.length = 256 ∧ (bgLine s).line.bgOpaque = (bgLine s).line.bgPix.map (· != 0) := by
  unfold bgLine
  split
  · simp only [State.backgroundBuffers]
    exact ⟨clipBackground_length _ _ (toScreen_length _ _ (fetchLine_pixels_length s)), toScreen_length _ _ (fetchLine_groups_length s), by trivial⟩
  · exact ⟨List.length_replicate, List.length_replicate, by show List.replicate _ false = List.map _ (List.replicate _ _); rw [List.map_replicate]; rfl⟩

/-- A read below the palette window and above pattern space is a nametable read and changes nothing (R80). -/
theorem vramRead_nt {a : Nat} (s : State) (h1 : 0x2000 ≤ a % 0x4000) (h2 : a % 0x4000 < 0x3F00) : vramRead a s = (s.ntRead a, s) := by
  rcases resolve_cases s.variant.mirroring a with ⟨_, h⟩ | ⟨_, _, h⟩ | ⟨_, h⟩ 
  · omega
  · simp only [vramRead, h]; rfl
  · omega

theorem tileAddress_nametable {nt cy cx : Nat} (h1 : nt < 4) (h2 : cy < 32) (h3 : cx < 32) : 0x2000 ≤ tileAddress nt cy cx % 0x4000 ∧ tileAddress nt cy cx % 0x4000 < 0x3F00 := by
  simp only [tileAddress, Layout.ntBase]; omega

theorem attributeAddress_nametable {nt cy cx : Nat} (h1 : nt < 4) (h2 : cy < 32) (h3 : cx < 32) : 0x2000 ≤ attributeAddress nt cy cx % 0x4000 ∧ attributeAddress nt cy cx % 0x4000 < 0x3F00 := by
  simp only [attributeAddress, Layout.ntBase, Layout.attributeOffset]; omega

/-- Everything one column fetches and what the collaborator observes of it (R200). -/
theorem fetchColumn_eq (fy cy nt cx : Nat) (s : State) (h1 : nt < 4) (h2 : cy < 32) (h3 : cx < 32) :
   ∃ c, (fetchColumn fy cy nt cx s).1 = c ∧ c.ntByte = s.ntRead (tileAddress nt cy cx) ∧ c.atByte = s.ntRead (attributeAddress nt cy cx) ∧
    c.group = attributeGroup c.atByte cy cx ∧ 
    c.plane0 = s.patternAnswer .tile (patternAddress s.tilePage c.ntByte.toNat fy) c.group ∧
    c.plane1 = (s.notePatternRead .tile (patternAddress s.tilePage c.ntByte.toNat fy) c.group).patternAnswer .tile (patternAddress s.tilePage c.ntByte.toNat fy + 8) c.group ∧
    (fetchColumn fy cy nt cx s).2.patternCalls = s.patternCalls ++ [.read .tile s.drawPhase (patternAddress s.tilePage c.ntByte.toNat fy) c.group, .read .tile s.drawPhase (patternAddress s.tilePage c.ntByte.toNat fy + 8) c.group] ∧
    (fetchColumn fy cy nt cx s).2.draws = s.draws + 2 := by
  simp only [fetchColumn, vramRead_nt s (tileAddress_nametable h1 h2 h3).1 (tileAddress_nametable h1 h2 h3).2, vramRead_nt s (attributeAddress_nametable h1 h2 h3).1 (attributeAddress_nametable h1 h2 h3).2]
  refine ⟨_, rfl, rfl, rfl, rfl, rfl, rfl, ?_, rfl⟩
  simp [chrRead, State.notePatternRead, Layout.planeDistance]

theorem nextColumn_lt {cx nt : Nat} (h1 : nt < 4) (h3 : cx < 32) : (nextColumn cx nt).2 < 4 ∧ (nextColumn cx nt).1 < 32 := by
  simp only [nextColumn]; split <;> (try split) <;> dsimp only <;> omega

/-- Column and nametable after `n` steps of the coarse-x walk (R208). -/
def columnWalk (cx nt : Nat) : Nat → Nat × Nat
  | 0 => (cx, nt)
  | n + 1 => columnWalk (nextColumn cx nt).1 (nextColumn cx nt).2 n

/-- Column `col` of a line is fetched at the walked position, in a state that differs by fetches only. -/
theorem fetchColumns_get (fy cy n nt cx : Nat) (s : State) (col : Nat) (hc : col < n) :
   ∃ t, FetchOnly s t ∧ (fetchColumns fy cy n nt cx s).1[col]? = some (fetchColumn fy cy (columnWalk cx nt col).2 (columnWalk cx nt col).1 t).1 := by
  induction n generalizing nt cx s col with
  | zero => omega
  | succ n ih =>
    cases col with
    | zero => exact ⟨s, rfl, rfl⟩
    | succ col =>
      obtain ⟨t, h1, h2⟩ := ih (nextColumn cx nt).2 (nextColumn cx nt).1 (fetchColumn fy cy nt cx s).2 col (by omega)
      exact ⟨t, (fetchColumn_fetchOnly _ _ _ _ _).trans h1, by simpa only [fetchColumns, List.getElem?_cons_succ, columnWalk] using h2⟩

/-- Up to column 31 the walk stays in the nametable. -/
theorem columnWalk_low (cx nt col : Nat) (h : cx + col < 32) : columnWalk cx nt col = (cx + col, nt) := by
  induction col generalizing cx with
  | zero => rfl
  | succ n ih =>
    have : (nextColumn cx nt) = (cx + 1, nt) := by simp only [nextColumn]; rw [if_neg (by omega)]
    simp only [columnWalk, this]; rw [ih _ (by omega)]; congr 1; omega

/-- Past column 31 the walk is in the horizontally adjacent nametable. -/
theorem columnWalk_high (cx nt col : Nat) (h1 : cx < 32) (hn : nt < 4) (h : 32 ≤ cx + col) (h2 : cx + col < 64) : columnWalk cx nt col = (cx + col - 32, nt / 2 * 2 + (1 - nt % 2)) := by
  induction col generalizing cx with
  | zero => omega
  | succ n ih =>
    by_cases h3 : cx + 1 = 32
    · have : (nextColumn cx nt) = (0, nt / 2 * 2 + (1 - nt % 2)) := by simp only [nextColumn]; rw [if_pos h3]; congr 1; split <;> omega
      simp only [columnWalk, this]; rw [columnWalk_low _ _ _ (by omega)]; congr 1; omega
    · have : (nextColumn cx nt) = (cx + 1, nt) := by simp only [nextColumn]; rw [if_neg (by omega)]
      simp only [columnWalk, this]; rw [ih _ (by omega) (by omega) (by omega)]; congr 1; omega

/-- What the collaborator observes of one tile column (R90, R200). -/
def columnCalls (fy cy nt cx : Nat) (s : State) : List PatternCall :=
  [.read .tile s.drawPhase (patternAddress s.tilePage (s.ntRead (tileAddress nt cy cx)).toNat fy)
      (attributeGroup (s.ntRead (attributeAddress nt cy cx)) cy cx),
   .read .tile s.drawPhase (patternAddress s.tilePage (s.ntRead (tileAddress nt cy cx)).toNat fy + 8)
      (attributeGroup (s.ntRead (attributeAddress nt cy cx)) cy cx)]

/-- A fetch does not change what a column will show the collaborator. -/
theorem FetchOnly.columnCalls {s t : State} (h : FetchOnly s t) (fy cy nt cx : Nat) :
    columnCalls fy cy nt cx t = columnCalls fy cy nt cx s := by
  unfold FetchOnly at h; rw [h]; rfl

/-- Exactly what the collaborator observes of `n` columns, in order (R200, R209). -/
theorem fetchColumns_patternCalls (fy cy n nt cx : Nat) (s : State) (h2 : cy < 32) (h1 : nt < 4) (h3 : cx < 32) :
    (fetchColumns fy cy n nt cx s).2.patternCalls = s.patternCalls ++
      (List.range n).flatMap fun col => columnCalls fy cy (columnWalk cx nt col).2 (columnWalk cx nt col).1 s := by
  induction n generalizing nt cx s with
  | zero => simp [fetchColumns]
  | succ n ih =>
    obtain ⟨c, -, e1, e2, e3, -, -, hp, -⟩ := fetchColumn_eq fy cy nt cx s h1 h2 h3
    have hf := fetchColumn_fetchOnly fy cy nt cx s
    simp only [fetchColumns]
    rw [ih _ _ _ (nextColumn_lt h1 h3).1 (nextColumn_lt h1 h3).2, hp, List.append_assoc, List.range_succ_eq_map,
      List.flatMap_cons, List.flatMap_map]
    simp only [hf.columnCalls, e3, e2, e1]
    rfl

/-- The draws of `n` columns: two each (log 5). -/
theorem fetchColumns_draws (fy cy n nt cx : Nat) (s : State) (h2 : cy < 32) (h1 : nt < 4) (h3 : cx < 32) :
    (fetchColumns fy cy n nt cx s).2.draws = s.draws + 2 * n := by
  induction n generalizing nt cx s with
  | zero => rfl
  | succ n ih =>
    obtain ⟨c, -, -, -, -, -, -, -, hdr⟩ := fetchColumn_eq fy cy nt cx s h1 h2 h3
    simp only [fetchColumns]
    rw [ih _ _ _ (nextColumn_lt h1 h3).1 (nextColumn_lt h1 h3).2, hdr]
    omega

end Sys2Proof.Machine
end

