-- ==== Sys2Proof/Laws/Bits.lean ====
section
/-! SUPPORT. Laws of bit-field reads and assignments, and of the fields of the address registers and of STATUS. -/

namespace Sys2Proof.Machine

theorem getLsbD_bits {w : Nat} (v : BitVec w) (lo n i : Nat) :
    (bits v lo n).getLsbD i = (decide (i < n) && v.getLsbD (lo + i)) := by
  simp [bits, BitVec.getLsbD_extractLsb']

theorem getLsbD_setBits {w n : Nat} (v : BitVec w) (lo : Nat) (x : BitVec n) (i : Nat) :
    (setBits v lo x).getLsbD i =
      if lo ≤ i ∧ i < lo + n then (decide (i < w) && x.getLsbD (i - lo)) else v.getLsbD i := by
  by_cases hi : i < w
  · by_cases h : lo ≤ i ∧ i < lo + n
    · have h1 : ¬ i < lo := by omega
      have h2 : i - lo < n := by omega
      simp [setBits, hi, h, h1, h2]
    · by_cases h1 : i < lo
      · have h2 : ¬ (lo ≤ i ∧ i < lo + n) := by omega
        simp [setBits, hi, h1, h2]
      · have h2 : ¬ i - lo < n := by omega
        have h3 : x.getLsbD (i - lo) = false := BitVec.getLsbD_of_ge _ _ (by omega)
        simp [setBits, hi, h, h1, h2, h3]
  · have h1 : (setBits v lo x).getLsbD i = false := BitVec.getLsbD_of_ge _ _ (by omega)
    have h2 : v.getLsbD i = false := BitVec.getLsbD_of_ge _ _ (by omega)
    simp [h1, h2, hi]

/-- Reading the field just assigned. -/
theorem bits_setBits_same {w n : Nat} (v : BitVec w) (lo : Nat) (x : BitVec n) (h : lo + n ≤ w) :
    bits (setBits v lo x) lo n = x := by
  apply BitVec.eq_of_getLsbD_eq
  intro i hi
  have h1 : lo + i < w := by omega
  rw [getLsbD_bits, getLsbD_setBits, if_pos (by omega)]
  simp [hi, h1]

/-- Reading a field that does not overlap the assigned one. -/
theorem bits_setBits_disjoint {w n : Nat} (v : BitVec w) (lo : Nat) (x : BitVec n) (lo' n' : Nat)
    (h : lo' + n' ≤ lo ∨ lo + n ≤ lo') : bits (setBits v lo x) lo' n' = bits v lo' n' := by
  apply BitVec.eq_of_getLsbD_eq
  intro i hi
  have h1 : ¬ (lo ≤ lo' + i ∧ lo' + i < lo + n) := by omega
  rw [getLsbD_bits, getLsbD_setBits, getLsbD_bits, if_neg h1]

/-! ### The fields of an address register (R33) -/

@[simp] theorem coarseX_setCoarseX (v : VAddr) (x : BitVec 5) : coarseX (setCoarseX v x) = x :=
  bits_setBits_same _ _ _ (by decide)
@[simp] theorem coarseY_setCoarseX (v : VAddr) (x : BitVec 5) : coarseY (setCoarseX v x) = coarseY v :=
  bits_setBits_disjoint _ _ _ _ _ (by decide)
@[simp] theorem ntField_setCoarseX (v : VAddr) (x : BitVec 5) : ntField (setCoarseX v x) = ntField v :=
  bits_setBits_disjoint _ _ _ _ _ (by decide)
@[simp] theorem fineY_setCoarseX (v : VAddr) (x : BitVec 5) : fineY (setCoarseX v x) = fineY v :=
  bits_setBits_disjoint _ _ _ _ _ (by decide)
@[simp] theorem coarseX_setCoarseY (v : VAddr) (y : BitVec 5) : coarseX (setCoarseY v y) = coarseX v :=
  bits_setBits_disjoint _ _ _ _ _ (by decide)
@[simp] theorem coarseY_setCoarseY (v : VAddr) (y : BitVec 5) : coarseY (setCoarseY v y) = y :=
  bits_setBits_same _ _ _ (by decide)
@[simp] theorem ntField_setCoarseY (v : VAddr) (y : BitVec 5) : ntField (setCoarseY v y) = ntField v :=
  bits_setBits_disjoint _ _ _ _ _ (by decide)
@[simp] theorem fineY_setCoarseY (v : VAddr) (y : BitVec 5) : fineY (setCoarseY v y) = fineY v :=
  bits_setBits_disjoint _ _ _ _ _ (by decide)
@[simp] theorem coarseX_setNtField (v : VAddr) (n : BitVec 2) : coarseX (setNtField v n) = coarseX v :=
  bits_setBits_disjoint _ _ _ _ _ (by decide)
@[simp] theorem coarseY_setNtField (v : VAddr) (n : BitVec 2) : coarseY (setNtField v n) = coarseY v :=
  bits_setBits_disjoint _ _ _ _ _ (by decide)
@[simp] theorem ntField_setNtField (v : VAddr) (n : BitVec 2) : ntField (setNtField v n) = n :=
  bits_setBits_same _ _ _ (by decide)
@[simp] theorem fineY_setNtField (v : VAddr) (n : BitVec 2) : fineY (setNtField v n) = fineY v :=
  bits_setBits_disjoint _ _ _ _ _ (by decide)
@[simp] theorem coarseX_setFineY (v : VAddr) (y : BitVec 3) : coarseX (setFineY v y) = coarseX v :=
  bits_setBits_disjoint _ _ _ _ _ (by decide)
@[simp] theorem coarseY_setFineY (v : VAddr) (y : BitVec 3) : coarseY (setFineY v y) = coarseY v :=
  bits_setBits_disjoint _ _ _ _ _ (by decide)
@[simp] theorem ntField_setFineY (v : VAddr) (y : BitVec 3) : ntField (setFineY v y) = ntField v :=
  bits_setBits_disjoint _ _ _ _ _ (by decide)
@[simp] theorem fineY_setFineY (v : VAddr) (y : BitVec 3) : fineY (setFineY v y) = y :=
  bits_setBits_same _ _ _ (by decide)

/-- An address register is its four fields. -/
theorem vaddr_eq_of_fields {v w : VAddr} (hx : coarseX v = coarseX w) (hy : coarseY v = coarseY w)
    (hn : ntField v = ntField w) (hf : fineY v = fineY w) : v = w := by
  apply BitVec.eq_of_getLsbD_eq
  intro i hi
  have key : ∀ lo n, bits v lo n = bits w lo n → lo ≤ i → i < lo + n → v.getLsbD i = w.getLsbD i := by
    intro lo n h h1 h2
    have h3 : (bits v lo n).getLsbD (i - lo) = (bits w lo n).getLsbD (i - lo) := by rw [h]
    rw [getLsbD_bits, getLsbD_bits] at h3
    have h4 : i - lo < n := by omega
    have h5 : lo + (i - lo) = i := by omega
    simpa only [h4, h5, decide_true, Bool.true_and] using h3
  by_cases h1 : i < 5
  · exact key 0 5 hx (by omega) (by omega)
  by_cases h2 : i < 10
  · exact key 5 5 hy (by omega) (by omega)
  by_cases h3 : i < 12
  · exact key 10 2 hn (by omega) (by omega)
  · exact key 12 3 hf (by omega) (by omega)

/-! ### Pixels (R206) -/

/-- Plane 0 is the low bit of a pixel, plane 1 the high one. -/
theorem planePixel_toNat (p0 p1 : Byte) (b : Nat) :
    (planePixel p0 p1 b).toNat = 2 * (p1.getLsbD b).toNat + (p0.getLsbD b).toNat := by
  unfold planePixel
  cases p1.getLsbD b <;> cases p0.getLsbD b <;> rfl

/-! ### STATUS (R24) -/

@[simp] theorem getLsbD_setFlag (st : Byte) (bit : Nat) (b : Bool) (i : Nat) (h : bit < 8) :
    (setFlag st bit b).getLsbD i = if i = bit then b else st.getLsbD i := by
  rw [setFlag, getLsbD_setBits]
  by_cases hi : i = bit
  · subst hi; simp [h]
  · rw [if_neg (by omega), if_neg hi]

/-- Assigning a flag leaves the always-zero bits 4:0 alone. -/
theorem bits_low_setFlag (st : Byte) (bit : Nat) (b : Bool) (h : 5 ≤ bit) :
    bits (setFlag st bit b) 0 5 = bits st 0 5 :=
  bits_setBits_disjoint _ _ _ _ _ (by omega)

end Sys2Proof.Machine
end

