-- ==== Sys2Proof/Laws/Decode.lean ====
section
/-! SUPPORT. The fields of a word made from fields. -/

namespace Sys2Proof

variable (c : BitVec 4) (r : Bool) (z : BitVec 3) (a : BitVec 16) (d : Byte)

theorem getLsbD_mkWord (i : Nat) : (mkWord c r z a d).getLsbD i =
    if i < 8 then d.getLsbD i else if i < 24 then a.getLsbD (i - 8) else if i < 27 then z.getLsbD (i - 24)
    else if i < 28 then (decide (i = 27) && r) else c.getLsbD (i - 28) := by
  simp only [mkWord, BitVec.getLsbD_append, BitVec.getLsbD_ofBool]
  split
  · rfl
  split
  · next h1 h2 => rw [if_pos (by omega)]
  split
  · next h1 h2 h3 => rw [if_neg (by omega), if_pos (by omega)]; congr 1
  split
  · next h1 h2 h3 h4 =>
    rw [if_neg (by omega), if_neg (by omega), if_pos (by omega)]
    have : i = 27 := by omega
    subst this; simp
  · next h1 h2 h3 h4 =>
    rw [if_neg (by omega), if_neg (by omega), if_neg (by omega)]; congr 1

@[simp] theorem wordClass_mkWord : wordClass (mkWord c r z a d) = c := by
  apply BitVec.eq_of_getLsbD_eq
  intro i hi
  simp only [wordClass, BitVec.getLsbD_extractLsb', getLsbD_mkWord]
  rw [if_neg (by omega), if_neg (by omega), if_neg (by omega), if_neg (by omega)]
  simp [hi]

@[simp] theorem wordRnw_mkWord : wordRnw (mkWord c r z a d) = r := by
  rw [wordRnw, getLsbD_mkWord]
  simp

@[simp] theorem wordZero_mkWord : wordZero (mkWord c r z a d) = z := by
  apply BitVec.eq_of_getLsbD_eq
  intro i hi
  simp only [wordZero, BitVec.getLsbD_extractLsb', getLsbD_mkWord]
  rw [if_neg (by omega), if_neg (by omega), if_pos (by omega)]
  simp [hi]

@[simp] theorem wordAddr_mkWord : wordAddr (mkWord c r z a d) = a := by
  apply BitVec.eq_of_getLsbD_eq
  intro i hi
  simp only [wordAddr, BitVec.getLsbD_extractLsb', getLsbD_mkWord]
  rw [if_neg (by omega), if_pos (by omega)]
  simp [hi]

@[simp] theorem wordData_mkWord : wordData (mkWord c r z a d) = d := by
  apply BitVec.eq_of_getLsbD_eq
  intro i hi
  simp only [wordData, BitVec.getLsbD_extractLsb', getLsbD_mkWord]
  rw [if_pos (by omega)]
  simp [hi]

end Sys2Proof
end

