-- ==== Sys2Proof/Laws/Sprites.lean ====
section
/-! SUPPORT. Laws of the sprite engine: selection, fetch, the two flags, the range of composited indices. -/

namespace Sys2Proof.Machine

/-- A background index is 0 .. 15 and, when not 0, has a colour index that is not 0 (R212). -/
theorem LineBuffers.bgIndex_lt (l : LineBuffers) (x : Nat) : (l.bgIndex x).toNat < 16 ∧ ((l.bgIndex x).toNat ≠ 0 → (l.bgIndex x).toNat % 4 ≠ 0) := by
  unfold LineBuffers.bgIndex
  split
  · simp
  · next h =>
    generalize l.bgPix.getD x 0 = p at *
    generalize l.bgGroup.getD x 0 = g at *
    revert p g; decide

/-- The index of an opaque sprite pixel is 0x11 .. 0x1F with a colour index that is not 0 (R241). -/
theorem SpriteSlot.index_range (k : SpriteSlot) (x : Nat) (h : k.pixel x ≠ 0) : 0x11 ≤ (k.index x).toNat ∧ (k.index x).toNat % 4 ≠ 0 := by
  unfold SpriteSlot.index
  generalize k.pixel x = p at *
  generalize bits k.attr Layout.palLo 2 = g at *
  revert p g; decide

theorem sprLine_outIdx_length (y : Nat) (s : State) : (sprLine y s).line.outIdx.length = 256 := by
  unfold sprLine; split
  · simp [sprComposite, Layout.screenWidth]
  · show (List.map _ (List.range _)).length = 256; rw [List.length_map, List.length_range]

/-- Evaluation changes OVERFLOW only, by setting it on a ninth sprite (R235, R236). -/
theorem sprEval_status (y : Nat) (s : State) (b : Nat) (hb : b < 8) : (sprEval y s).status.getLsbD b = (s.status.getLsbD b || (decide (b = 5) && decide (8 < (s.spritesInRange y).length))) := by
  simp only [sprEval, State.raiseOverflow, Layout.overflowBit, State.overflow]
  rw [getLsbD_setFlag _ _ _ _ (by decide)]
  split
  · next h => subst h; simp [Layout.spritesPerLine]
  · next h => simp [h]

/-- Compositing changes SPRITE0_HIT only, by setting it (R245). -/
theorem sprComposite_status (s : State) (b : Nat) : (sprComposite s).status.getLsbD b = (s.status.getLsbD b || (decide (b = 6) && (List.range 256).any s.sprite0HitAt)) := by
  simp only [sprComposite, State.raiseSprite0Hit, Layout.sprite0HitBit, State.sprite0Hit]
  rw [getLsbD_setFlag _ _ _ _ (by decide)]
  split
  · next h => subst h; simp [Layout.screenWidth]
  · next h => simp [h]

theorem selectSprites_status (y : Nat) (s : State) (b : Nat) : (selectSprites y s).status.getLsbD b = (s.status.getLsbD b || (s.renderingEnabled && decide (b = 5) && decide (8 < (s.spritesInRange y).length))) := by
  by_cases hb : b < 8
  · unfold selectSprites; dsimp only
    split
    · next h => rw [sprEval_status _ _ _ hb]; simp [h]; rfl
    · next h => simp [h]
  · rw [BitVec.getLsbD_of_ge _ _ (by omega), BitVec.getLsbD_of_ge s.status _ (by omega)]; simp; omega

theorem spriteStage_status (y : Nat) (s : State) : (spriteStage y s).status = (selectSprites y s).status := by
  have := sprFetch_lineOnly y (selectSprites y s)
  unfold LineOnly at this
  simp only [spriteStage]; rw [this]

/-- STATUS after the sprites of a line: the two flags are set by evaluation and by the hit detector, nothing else. -/
theorem sprLine_status (y : Nat) (s : State) (b : Nat) : (sprLine y s).status.getLsbD b = (s.status.getLsbD b || (s.renderingEnabled && decide (b = 5) && decide (8 < (s.spritesInRange y).length)) || (s.sprEn && decide (b = 6) && (List.range 256).any (spriteStage y s).sprite0HitAt)) := by
  unfold sprLine; split
  · next h => rw [sprComposite_status, spriteStage_status, selectSprites_status]; simp [h]
  · next h => rw [spriteStage_status, selectSprites_status]; simp [h]

theorem spritesInRange_congr {s t : State} (h1 : t.oam = s.oam) (h2 : t.variant = s.variant) (h3 : t.control0 = s.control0) (y : Nat) : t.spritesInRange y = s.spritesInRange y := by
  have hy : ∀ n, t.spriteTop n = s.spriteTop n := fun n => by simp only [State.spriteTop, State.spriteY, State.oamByte, State.readByte, State.memory, h1, h2]
  have hh : t.spriteHeight = s.spriteHeight := by simp only [State.spriteHeight, h3]
  have : t.inRange y = s.inRange y := by funext n; simp only [State.inRange, hy, hh]
  simp only [State.spritesInRange, this]

/-- The slots of a line before their fetch (R235). -/
theorem selectSprites_sprites (y : Nat) (s : State) : (selectSprites y s).line.sprites = if s.renderingEnabled then ((s.spritesInRange y).take 8).map s.slotOf else [] := by
  unfold selectSprites; dsimp only
  split
  · next h => rfl
  · rfl

theorem selectSprites_eq (y : Nat) (s : State) : (selectSprites y s) = { s with line := (selectSprites y s).line, status := (selectSprites y s).status } := by
  unfold selectSprites; dsimp only; split <;> rfl

theorem sprFetch_sprites (y : Nat) (s : State) : (sprFetch y s).line.sprites = (fetchSlots y s.line.sprites s).1 := rfl

theorem sprLine_sprites (y : Nat) (s : State) : (sprLine y s).line.sprites = (fetchSlots y (selectSprites y s).line.sprites (selectSprites y s)).1 := by
  unfold sprLine; split <;> rfl

/-- The slots of a line keep sprite, attribute and position through fetch and compositing. -/
theorem sprLine_slots (y : Nat) (s : State) : (sprLine y s).line.sprites.map (fun k => (k.sel, k.attr, k.x)) = (selectSprites y s).line.sprites.map (fun k => (k.sel, k.attr, k.x)) := by
  rw [sprLine_sprites, fetchSlots_sel]

/-- What being in range on a scanline says. -/
theorem mem_spritesInRange (s : State) (y n : Nat) (h : n ∈ s.spritesInRange y) : n < 64 ∧ s.inRange y n = true := by
  simp [State.spritesInRange, Layout.oamEntries] at h; exact h

/-- Every fetched slot is a selected one, fetched in a state that differs by fetches only. -/
theorem mem_fetchSlots (y : Nat) (ks : List SpriteSlot) (s : State) (k : SpriteSlot) (h : k ∈ (fetchSlots y ks s).1) :
   ∃ k0 ∈ ks, ∃ t, FetchOnly s t ∧ k = (fetchSlot y k0 t).1 := by
  induction ks generalizing s with
  | nil => simp [fetchSlots] at h
  | cons a ks ih =>
    simp only [fetchSlots, List.mem_cons] at h
    rcases h with rfl | h
    · exact ⟨a, by simp, s, rfl, rfl⟩
    · obtain ⟨k0, h1, t, h2, h3⟩ := ih _ h
      exact ⟨k0, by simp [h1], t, (fetchSlot_fetchOnly _ _ _).trans h2, h3⟩

/-- Every slot of a line is the fetched slot of a sprite in range. -/
theorem mem_sprLine_sprites (y : Nat) (s : State) (k : SpriteSlot) (h : k ∈ (sprLine y s).line.sprites) : s.renderingEnabled = true ∧
   ∃ n ∈ s.spritesInRange y, ∃ t, FetchOnly (selectSprites y s) t ∧ k = (fetchSlot y (s.slotOf n) t).1 := by
  rw [sprLine_sprites] at h
  obtain ⟨k0, h1, t, h2, h3⟩ := mem_fetchSlots _ _ _ _ h
  rw [selectSprites_sprites] at h1
  split at h1
  · next hr =>
    simp only [List.mem_map] at h1
    obtain ⟨n, hn, rfl⟩ := h1
    exact ⟨hr, n, List.mem_of_mem_take hn, t, h2, h3⟩
  · simp at h1

/-- What the collaborator observes of one selected sprite (R90, R237). -/
def slotCalls (y : Nat) (s : State) (k : SpriteSlot) : List PatternCall :=
  [.read .sprite s.drawPhase (s.spritePatternAddress y k) 0, .read .sprite s.drawPhase (s.spritePatternAddress y k + 8) 0]

theorem FetchOnly.slotCalls {s t : State} (h : FetchOnly s t) (y : Nat) : slotCalls y t = slotCalls y s := by
  unfold FetchOnly at h; rw [h]; rfl

/-- Exactly what the collaborator observes of the selected sprites, in order (R237). -/
theorem fetchSlots_patternCalls (y : Nat) (ks : List SpriteSlot) (s : State) :
    (fetchSlots y ks s).2.patternCalls = s.patternCalls ++ ks.flatMap (slotCalls y s) := by
  induction ks generalizing s with
  | nil => simp [fetchSlots]
  | cons k ks ih =>
    simp only [fetchSlots]
    rw [ih, (fetchSlot_fetchOnly y k s).slotCalls, List.flatMap_cons, ← List.append_assoc]
    simp [fetchSlot, chrRead, State.notePatternRead, slotCalls]

/-- The fetch keeps what a slot shows the collaborator: its sprite and its attribute. -/
theorem fetchSlots_slotCalls (y : Nat) (ks : List SpriteSlot) (s q : State) :
    (fetchSlots y ks s).1.flatMap (slotCalls y q) = ks.flatMap (slotCalls y q) := by
  induction ks generalizing s with
  | nil => rfl
  | cons k ks ih =>
    simp only [fetchSlots, List.flatMap_cons, ih]
    rfl

/-- The draws of the selected sprites: two each (log 5). -/
theorem fetchSlots_draws (y : Nat) (ks : List SpriteSlot) (s : State) :
    (fetchSlots y ks s).2.draws = s.draws + 2 * ks.length := by
  induction ks generalizing s with
  | nil => rfl
  | cons k ks ih =>
    simp only [fetchSlots]
    rw [ih]
    show s.draws + 1 + 1 + 2 * ks.length = s.draws + 2 * (ks.length + 1)
    omega

/-- The sprite engine leaves the background's buffers as they are. -/
theorem sprLine_line (y : Nat) (s : State) :
    (sprLine y s).line = { s.line with sprites := (sprLine y s).line.sprites, outIdx := (sprLine y s).line.outIdx, sprClaimed := (sprLine y s).line.sprClaimed } := by
  have h : ∀ t : State, (sprComposite t).line = { t.line with outIdx := (sprComposite t).line.outIdx, sprClaimed := (sprComposite t).line.sprClaimed } := fun _ => rfl
  have h1 : (spriteStage y s).line = { s.line with sprites := (spriteStage y s).line.sprites, outIdx := (spriteStage y s).line.outIdx, sprClaimed := (spriteStage y s).line.sprClaimed } := by
    have h2 : (selectSprites y s).line = { s.line with sprites := (selectSprites y s).line.sprites } := by unfold selectSprites; dsimp only; split <;> rfl
    have h3 := fetchSlots_fetchOnly y (selectSprites y s).line.sprites (selectSprites y s)
    unfold FetchOnly at h3
    have h4 : (sprFetch y (selectSprites y s)).line = { (selectSprites y s).line with sprites := (fetchSlots y (selectSprites y s).line.sprites (selectSprites y s)).1 } := by
      simp only [sprFetch]; rw [h3]
    simp only [spriteStage, h4]; rw [h2]; rfl
  unfold sprLine; split
  · rw [h, h1]
  · exact h1

/-- Claims and composited indices of a line: one claim bit per pixel, no sprite colour 0 (R260). -/
theorem sprLine_out (y : Nat) (s : State) : (sprLine y s).line.sprClaimed.length = 256 ∧ ∀ i ∈ (sprLine y s).line.outIdx, ¬ (16 ≤ i.toNat ∧ i.toNat % 4 = 0) := by
  have hbg : ∀ (l : LineBuffers) x, ¬ (16 ≤ (l.bgIndex x).toNat ∧ (l.bgIndex x).toNat % 4 = 0) := fun l x => by have := (LineBuffers.bgIndex_lt l x).1; omega
  unfold sprLine; split
  · generalize spriteStage y s = u
    refine ⟨by simp only [sprComposite, Layout.screenWidth]; rw [List.length_map, List.length_range], ?_⟩
    intro i hi
    simp only [sprComposite, List.mem_map] at hi
    obtain ⟨x, -, rfl⟩ := hi
    unfold State.compositePixel
    split
    · exact hbg _ _
    · next k hk =>
      split
      · have := List.find?_some hk
        simp at this
        have := SpriteSlot.index_range k x this.1
        omega
      · exact hbg _ _
  · refine ⟨by show (List.replicate _ _).length = 256; rw [List.length_replicate], ?_⟩
    intro i hi
    have hi' : i ∈ (List.range Layout.screenWidth).map (sprFetch y (selectSprites y s)).line.bgIndex := hi
    simp only [List.mem_map] at hi'
    obtain ⟨x, -, rfl⟩ := hi'
    exact hbg _ _

/-- At most eight slots, in ascending OAM order (R235). -/
theorem sprLine_slotsOk (y : Nat) (s : State) : (sprLine y s).line.sprites.length ≤ 8 ∧ (sprLine y s).line.sprites.Pairwise (fun a b => a.sel < b.sel) ∧ ∀ k ∈ (sprLine y s).line.sprites, k.sel < 64 := by
  have h2 := sprLine_slots y s
  rw [selectSprites_sprites] at h2
  generalize (sprLine y s).line.sprites = L at *
  have h3 : L.map (fun k => k.sel) = if s.renderingEnabled then (s.spritesInRange y).take 8 else [] := by
    have := congrArg (List.map (fun p : Nat × Byte × Byte => p.1)) h2
    rw [List.map_map] at this
    have e : L.map (fun k => k.sel) = List.map ((fun p : Nat × Byte × Byte => p.1) ∘ fun k : SpriteSlot => (k.sel, k.attr, k.x)) L := rfl
    rw [e, this]
    split
    · rw [List.map_map, List.map_map]
      have : (((fun p : Nat × Byte × Byte => p.1) ∘ (fun k : SpriteSlot => (k.sel, k.attr, k.x))) ∘ s.slotOf) = id := rfl
      rw [this, List.map_id]
    · rfl
  have hp : (L.map (fun k => k.sel)).Pairwise (· < ·) ∧ (∀ n ∈ L.map (fun k => k.sel), n < 64) ∧ (L.map (fun k => k.sel)).length ≤ 8 := by
    rw [h3]; split
    · exact ⟨(List.pairwise_lt_range.filter _).sublist (List.take_sublist _ _), fun n hn => (mem_spritesInRange s y n (List.mem_of_mem_take hn)).1, by rw [List.length_take]; omega⟩
    · simp
  exact ⟨by simpa using hp.2.2, List.pairwise_map.1 hp.1, fun k hk => hp.2.1 _ (List.mem_map_of_mem hk)⟩

end Sys2Proof.Machine
end

