-- ==== Sys2Proof/Laws/Render.lean ====
section
/-! SUPPORT. Laws of a rendered scanline: what it leaves, the scroll reloads and the vertical increment. -/

namespace Sys2Proof.Machine

/-- EV_HBLANK completes when the contract holds (R173). -/
theorem exec_evHblank (s : State) (hd : s.hblankDone = false) : exec .evHblank s = .next (hblankEffect s) := by
  simp only [exec, execEvHblank, hblankEvent, hd, Bool.false_eq_true, if_false]

/-- The state EV_HBLANK hands to the rendering of a visible scanline (R173). -/
def hblankStart (s : State) : State := State.emit s.hblankOutput { s with hblankDone := true, dot := s.variant.hblankDot }

theorem hblankEffect_visible (s : State) (h : s.scanline < 240) : hblankEffect s = renderScanline s.scanline (hblankStart s) := by
  unfold hblankEffect; rw [if_pos (by exact h)]; rfl

theorem incrementY_eq (s : State) : incrementY s = { s with refreshData := (incrementY s).refreshData } := by
  unfold incrementY; split <;> rfl

theorem backgroundStage_fields (s : State) : (backgroundStage s).oam = s.oam ∧ (backgroundStage s).variant = s.variant ∧ (backgroundStage s).control0 = s.control0 ∧ (backgroundStage s).control1 = s.control1 ∧ (backgroundStage s).chr = s.chr ∧ (backgroundStage s).paletteRam = s.paletteRam:= by
  have h := backgroundStage_renderOnly s
  unfold RenderOnly at h
  refine ⟨?_, ?_, ?_, ?_, ?_, ?_⟩ <;> rw [h]

theorem backgroundStage_status (s : State) : (backgroundStage s).status = s.status := by
  have hb := bgLine_lineOnly (startLine s)
  unfold LineOnly at hb
  simp only [backgroundStage]; rw [hb]; unfold startLine horizontalReload; split <;> rfl

/-- What a rendered scanline leaves: the line of the sprite engine, its row in the framebuffer, ROW in the outputs. -/
theorem renderScanline_eq (y : Nat) (s : State) : renderScanline y s = { sprLine y (backgroundStage s) with 
     refreshData := (renderScanline y s).refreshData
     fb := Cells.store s.fb y ((sprLine y (backgroundStage s)).line.outIdx.map (sprLine y (backgroundStage s)).colorOf)
     outputs := s.outputs ++ [.row y ((sprLine y (backgroundStage s)).line.outIdx.map (sprLine y (backgroundStage s)).colorOf)] } := by
  have h1 := sprLine_lineStatusOnly y (backgroundStage s)
  have h2 := backgroundStage_renderOnly s
  have h0 : (backgroundStage s).fb = s.fb ∧ (backgroundStage s).outputs = s.outputs := by
    have hb := bgLine_lineOnly (startLine s)
    unfold LineOnly at hb
    have hs : (startLine s).fb = s.fb ∧ (startLine s).outputs = s.outputs := by
      unfold startLine horizontalReload; split <;> exact ⟨rfl, rfl⟩
    simp only [backgroundStage]; rw [hb]; exact hs
  have h3 : (sprLine y (backgroundStage s)).fb = s.fb ∧ (sprLine y (backgroundStage s)).outputs = s.outputs := by
    unfold LineStatusOnly at h1; rw [h1]; exact h0
  conv_lhs => rw [renderScanline, incrementY_eq]
  conv_rhs => rw [← h3.1, ← h3.2]
  rfl

/-- A colour depends on the configuration, CONTROL1 and palette RAM only. -/
theorem colorOf_congr {s t : State} (hv : t.variant = s.variant) (hc : t.control1 = s.control1) (hp : t.paletteRam = s.paletteRam) : t.colorOf = s.colorOf := by
  funext i
  simp [State.colorOf, State.emphasis, State.mono, State.palRead, State.readByte, State.memory, hv, hc, hp]

/-- What the rendered line has in common with the state before it. -/
theorem renderedLine_fields (y : Nat) (s : State) : let t := sprLine y (backgroundStage s)
    t.variant = s.variant ∧ t.control1 = s.control1 ∧ t.control0 = s.control0 ∧ t.paletteRam = s.paletteRam ∧ t.oam = s.oam ∧ t.ntRam = s.ntRam ∧ t.drawPhase = .sprite ∧ t.refreshData = (startLine s).refreshData := by
  have h1 := sprLine_lineStatusOnly y (backgroundStage s)
  have hb := bgLine_lineOnly (startLine s)
  unfold LineOnly at hb
  have hs := startLine_renderOnly s
  unfold LineStatusOnly at h1
  unfold RenderOnly at hs
  dsimp only
  rw [h1]
  simp only [backgroundStage]
  rw [hb]
  dsimp only
  refine ⟨?_, ?_, ?_, ?_, ?_, ?_, trivial, rfl⟩ <;> rw [hs]

theorem startLine_calls (s : State) : (startLine s).patternCalls = s.patternCalls ∧ (startLine s).draws = s.draws ∧ (startLine s).bgEn = s.bgEn:= by
  unfold startLine horizontalReload; split <;> exact ⟨rfl, rfl, rfl⟩

theorem getLsbD_setBits_outside (v : VAddr) (lo n b : Nat) (x : BitVec n) (h : b < lo ∨ lo + n ≤ b) : (setBits v lo x).getLsbD b = v.getLsbD b := by
  rw [getLsbD_setBits, if_neg (by omega)]

theorem coarseY_reloadHorizontal (v l : VAddr) : coarseY (reloadHorizontal v l) = coarseY v := by
  rw [reloadHorizontal, coarseY, bits_setBits_disjoint _ _ _ _ _ (by decide)]; exact coarseY_setCoarseX _ _

theorem fineY_reloadHorizontal (v l : VAddr) : fineY (reloadHorizontal v l) = fineY v := by
  rw [reloadHorizontal, fineY, bits_setBits_disjoint _ _ _ _ _ (by decide)]; exact fineY_setCoarseX _ _

theorem coarseX_reloadHorizontal (v l : VAddr) : coarseX (reloadHorizontal v l) = coarseX l := by
  rw [reloadHorizontal, coarseX, bits_setBits_disjoint _ _ _ _ _ (by decide)]; exact coarseX_setCoarseX _ _

theorem bit10_reloadHorizontal (v l : VAddr) : (reloadHorizontal v l).getLsbD 10 = l.getLsbD 10 := by
  rw [reloadHorizontal, getLsbD_setBits, if_pos (by decide), getLsbD_bits]; simp [Layout.ntLo]

theorem bit11_reloadHorizontal (v l : VAddr) : (reloadHorizontal v l).getLsbD 11 = v.getLsbD 11 := by
  rw [reloadHorizontal, getLsbD_setBits, if_neg (by decide), setCoarseX, getLsbD_setBits, if_neg (by decide)]

/-- The vertical increment by pixel rows: 240 rows cycle into the vertical neighbour, rows 30 and 31 wrap in place (R180). -/
theorem nextRow_spec (v : VAddr) : coarseX (nextRow v) = coarseX v ∧ (nextRow v).getLsbD 10 = v.getLsbD 10 ∧
   ((coarseY v).toNat < 30 → (coarseY (nextRow v)).toNat * 8 + (fineY (nextRow v)).toNat = ((coarseY v).toNat * 8 + (fineY v).toNat + 1) % 240 ∧
     ((nextRow v).getLsbD 11 = v.getLsbD 11 ↔ (coarseY v).toNat * 8 + (fineY v).toNat ≠ 239)) ∧
   (30 ≤ (coarseY v).toNat → (coarseY (nextRow v)).toNat * 8 + (fineY (nextRow v)).toNat = ((coarseY v).toNat * 8 + (fineY v).toNat + 1) % 256 ∧
     (nextRow v).getLsbD 11 = v.getLsbD 11) := by
  have hf := (fineY v).isLt
  have hy := (coarseY v).isLt
  unfold nextRow
  split
  · next h =>
    have e : (fineY v + 1).toNat = (fineY v).toNat + 1 := by rw [BitVec.toNat_add]; simp; omega
    rw [coarseX_setFineY, coarseY_setFineY, fineY_setFineY, e]
    rw [setFineY, getLsbD_setBits_outside _ _ _ _ _ (by decide), getLsbD_setBits_outside _ _ _ _ _ (by decide)]
    exact ⟨rfl, rfl, fun h => ⟨by omega, by simp; omega⟩, fun h => ⟨by omega, rfl⟩⟩
  · next h =>
    have hf7 : (fineY v).toNat = 7 := by omega
    dsimp only
    split
    · next h29 =>
      have h29' : (coarseY v).toNat = 29 := by rw [h29]; rfl
      refine ⟨?_, ?_, fun _ => ⟨?_, ?_⟩, fun h => by omega⟩
      · rw [coarseX, bits_setBits_disjoint _ _ _ _ _ (by decide)]; exact (coarseX_setCoarseY _ _).trans (coarseX_setFineY _ _)
      · rw [getLsbD_setBits_outside _ _ _ _ _ (by decide), setCoarseY, getLsbD_setBits_outside _ _ _ _ _ (by decide), setFineY, getLsbD_setBits_outside _ _ _ _ _ (by decide)]
      · have e1 : coarseY (setBits (setCoarseY (setFineY v 0) 0) (Layout.ntLo + 1) (~~~bits v (Layout.ntLo + 1) 1)) = 0 := by
          rw [coarseY, bits_setBits_disjoint _ _ _ _ _ (by decide)]; exact coarseY_setCoarseY _ _
        have e2 : fineY (setBits (setCoarseY (setFineY v 0) 0) (Layout.ntLo + 1) (~~~bits v (Layout.ntLo + 1) 1)) = 0 := by
          rw [fineY, bits_setBits_disjoint _ _ _ _ _ (by decide)]; exact (fineY_setCoarseY _ _).trans (fineY_setFineY _ _)
        rw [e1, e2, h29', hf7]; rfl
      · rw [getLsbD_setBits, if_pos (by decide), h29', hf7]
        simp [-BitVec.getLsbD_eq_getElem, getLsbD_bits, Layout.ntLo]
    · next h29 =>
      have h29' : (coarseY v).toNat ≠ 29 := fun h => h29 (BitVec.eq_of_toNat_eq h)
      split
      · next h31 =>
        have h31' : (coarseY v).toNat = 31 := by rw [h31]; rfl
        rw [coarseX_setCoarseY, coarseX_setFineY, coarseY_setCoarseY, fineY_setCoarseY, fineY_setFineY]
        rw [setCoarseY, getLsbD_setBits_outside _ _ _ _ _ (by decide), getLsbD_setBits_outside _ _ _ _ _ (by decide), setFineY, getLsbD_setBits_outside _ _ _ _ _ (by decide), getLsbD_setBits_outside _ _ _ _ _ (by decide), h31', hf7]
        exact ⟨rfl, rfl, fun h => by omega, fun h => ⟨rfl, rfl⟩⟩
      · next h31 =>
        have h31' : (coarseY v).toNat ≠ 31 := fun h => h31 (BitVec.eq_of_toNat_eq h)
        have e : (coarseY v + 1).toNat = (coarseY v).toNat + 1 := by rw [BitVec.toNat_add]; simp; omega
        rw [coarseX_setCoarseY, coarseX_setFineY, coarseY_setCoarseY, fineY_setCoarseY, fineY_setFineY]
        rw [setCoarseY, getLsbD_setBits_outside _ _ _ _ _ (by decide), getLsbD_setBits_outside _ _ _ _ _ (by decide), setFineY, getLsbD_setBits_outside _ _ _ _ _ (by decide), getLsbD_setBits_outside _ _ _ _ _ (by decide), e, hf7]
        exact ⟨rfl, rfl, fun h => ⟨by simp; omega, by simp; omega⟩, fun h => ⟨by simp; omega, rfl⟩⟩

/-- The running address after a rendered scanline (R179, R180). -/
theorem renderScanline_refreshData (y : Nat) (s : State) : (renderScanline y s).refreshData = if s.renderingEnabled then nextRow (reloadHorizontal s.refreshData s.refreshLatch) else s.refreshData := by
  have hsf := renderedLine_fields y s
  dsimp only at hsf
  have : (colorOut y (sprLine y (backgroundStage s))).refreshData = (startLine s).refreshData := hsf.2.2.2.2.2.2.2
  have hen : (colorOut y (sprLine y (backgroundStage s))).renderingEnabled = s.renderingEnabled := by
    show State.renderingEnabled (sprLine y (backgroundStage s)) = _
    simp [State.renderingEnabled, State.bgEn, State.sprEn, hsf.2.1]
  simp only [renderScanline, incrementY, hen]
  split
  · next h => dsimp only; rw [this]; simp only [startLine, horizontalReload]; rw [if_pos (by exact h)]; rfl
  · next h => rw [this]; simp only [startLine, horizontalReload]; rw [if_neg (by exact h)]; rfl

end Sys2Proof.Machine
end

