-- ==== Sys2Proof/Laws/Events.lean ====
section
/-! SUPPORT. What an event, a tick and a step can answer, said once. -/

namespace Sys2Proof.Machine

theorem hblankEvent_next {s t : State} (h : hblankEvent s = .next t) : s.hblankDone = false ∧ t = hblankEffect s := by
  unfold hblankEvent at h
  split at h
  · cases h
  · next hd => cases h; exact ⟨by simpa using hd, rfl⟩

theorem scanlineEvent_next {s t : State} (h : scanlineEvent s = .next t) :
    s.hblankDone = true ∧ t = scanlineEffect s := by
  unfold scanlineEvent at h
  split at h
  · next hd => cases h; exact ⟨hd, rfl⟩
  · cases h

/-- Everything the dot can do when it answers a next state. -/
theorem advanceDot_next {s t : State} (h : advanceDot s = .next t) :
    (s.dot + 1 = s.variant.dotsPerLine ∧ s.hblankDone = true ∧ t = scanlineEffect s) ∨
    (s.dot + 1 ≠ s.variant.dotsPerLine ∧ s.dot + 1 = s.variant.hblankDot ∧ s.hblankDone = false ∧ t = hblankEffect s) ∨
    (s.dot + 1 ≠ s.variant.dotsPerLine ∧ s.dot + 1 ≠ s.variant.hblankDot ∧ t = { s with dot := s.dot + 1 }) := by
  unfold advanceDot at h
  split at h
  · next h1 => exact .inl ⟨h1, scanlineEvent_next h⟩
  split at h
  · next h1 h2 => exact .inr (.inl ⟨h1, h2, hblankEvent_next h⟩)
  · next h1 h2 => cases h; exact .inr (.inr ⟨h1, h2, rfl⟩)

theorem andThen_next {r : Result State Fault Refusal} {f : State → Result State Fault Refusal} {t : State}
    (h : andThen r f = .next t) : ∃ u, r = .next u ∧ f u = .next t := by
  cases r with
  | next u => exact ⟨u, rfl, h⟩
  | fault e => cases h
  | refused e => cases h

@[simp] theorem andThen_of_next (u : State) (f : State → Result State Fault Refusal) : andThen (.next u) f = f u := rfl

theorem tick1_next {s t : State} (h : tick1 s = .next t) :
    ∃ u, advanceDot (countDown s) = .next u ∧ t = deliverDue u := by
  obtain ⟨u, h1, h2⟩ := andThen_next h
  cases h2
  exact ⟨u, h1, rfl⟩

@[simp] theorem ticks_zero (s : State) : ticks 0 s = .next s := rfl

theorem ticks_succ_next {n : Nat} {s t : State} (h : ticks (n + 1) s = .next t) :
    ∃ u, tick1 s = .next u ∧ ticks n u = .next t := andThen_next h

/-- What every tick keeps, a TICK keeps. -/
theorem ticks_keep {P : State → Prop} (hP : ∀ s t, P s → tick1 s = .next t → P t) {n : Nat} {s t : State}
    (hs : P s) (h : ticks n s = .next t) : P t := by
  induction n generalizing s with
  | zero => cases h; exact hs
  | succ n ih =>
    obtain ⟨u, h1, h2⟩ := ticks_succ_next h
    exact ih (hP s u hs h1) h2

/-! ### What the events change -/

/-- `t` is `s` but for what the events can change. -/
def EventOnly (s t : State) : Prop :=
  t = { s with
    hblankDone := t.hblankDone, dot := t.dot, scanline := t.scanline, drawPhase := t.drawPhase, outputs := t.outputs
    patternCalls := t.patternCalls, draws := t.draws, line := t.line, status := t.status, refreshData := t.refreshData
    fb := t.fb, nmiArmed := t.nmiArmed, nmiTimer := t.nmiTimer, nmiSuppress := t.nmiSuppress }

theorem EventOnly.trans {s t u : State} (h1 : EventOnly s t) (h2 : EventOnly t u) : EventOnly s u := by
  unfold EventOnly at *; rw [h2, h1]

theorem RenderOnly.eventOnly {s t : State} (h : RenderOnly s t) : EventOnly s t := by
  unfold RenderOnly at h; unfold EventOnly; rw [h]

theorem hblankEffect_eventOnly (s : State) : EventOnly s (hblankEffect s) := by
  have h0 : EventOnly s (State.emit s.hblankOutput { s with hblankDone := true, dot := s.variant.hblankDot }) := rfl
  unfold hblankEffect; dsimp only; split
  · exact h0.trans (renderScanline_renderOnly _ _).eventOnly
  · exact h0

theorem nmiEvent_eventOnly (s : State) : EventOnly s (nmiEvent s) := by unfold nmiEvent; split <;> rfl

theorem advanceScanline_eventOnly (s : State) : EventOnly s (advanceScanline s) := by
  unfold advanceScanline verticalReload; dsimp only; split <;> (try split) <;> rfl

theorem enterVblank_eventOnly (s : State) : EventOnly s (enterVblank s) := by unfold enterVblank; dsimp only; split <;> rfl

theorem scanlineEffect_eventOnly (s : State) : EventOnly s (scanlineEffect s) := by
  unfold scanlineEffect; dsimp only
  have h1 := advanceScanline_eventOnly s
  have h2 : EventOnly s (if (advanceScanline s).scanline = (advanceScanline s).variant.vblankFirstScanline then enterVblank (advanceScanline s) else advanceScanline s) := by
    split
    · exact h1.trans (enterVblank_eventOnly _)
    · exact h1
  have h3 : ∀ t, EventOnly s t → EventOnly s (if t.scanline + 1 = t.variant.scanlinesPerFrame then enterPrerender t else t) := by
    intro t ht
    split
    · exact EventOnly.trans ht (by rfl)
    · exact ht
  exact h3 _ h2

theorem countDown_eventOnly (s : State) : EventOnly s (countDown s) := by unfold countDown; split <;> rfl

theorem deliverDue_eventOnly (s : State) : EventOnly s (deliverDue s) := by
  unfold deliverDue; split
  · exact nmiEvent_eventOnly s
  · rfl

theorem tick1_eventOnly {s t : State} (h : tick1 s = .next t) : EventOnly s t := by
  obtain ⟨u, h1, rfl⟩ := tick1_next h
  refine (countDown_eventOnly s).trans (EventOnly.trans ?_ (deliverDue_eventOnly u))
  rcases advanceDot_next h1 with ⟨_, _, rfl⟩ | ⟨_, _, _, rfl⟩ | ⟨_, _, rfl⟩
  · exact scanlineEffect_eventOnly _
  · exact hblankEffect_eventOnly _
  · rfl

theorem ticks_eventOnly {n : Nat} {s t : State} (h : ticks n s = .next t) : EventOnly s t :=
  ticks_keep (P := EventOnly s) (fun _ _ h1 h2 => h1.trans (tick1_eventOnly h2)) (by rfl) h


/-! ### What a DATA access changes -/

theorem vramWrite_only (a : Nat) (v : Byte) (s : State) : vramWrite a v s = { s with ntRam := (vramWrite a v s).ntRam, paletteRam := (vramWrite a v s).paletteRam, chr := (vramWrite a v s).chr, patternCalls := (vramWrite a v s).patternCalls } := by
  rcases vramWrite_cases a v s with ⟨_, h⟩ | ⟨_, _, h⟩ | ⟨_, h⟩ <;> rw [h] <;> rfl

/-- Everything a step can do when it answers a next state: the head word spells an operation, which is performed. -/
theorem step_next {s t : State} (h : step s = .next t) :
    ∃ w rest i, s.pending = w :: rest ∧ decode w = .ok i ∧ exec i s.takeNext = .next t := by
  unfold step at h
  cases hp : s.pending with
  | nil => simp [hp] at h
  | cons w rest =>
    simp only [hp, List.head?_cons] at h
    cases hd : decode w with
    | error e => simp [hd] at h
    | ok i => exact ⟨w, rest, i, rfl, hd, by simpa [hd] using h⟩

end Sys2Proof.Machine
end

