-- ==== Sys2Proof/Laws/Invariant.lean ====
section
/-! SUPPORT. The parts of the invariant that the shared operations keep: the canonical form of every memory under every
memory operation, and the shape of the line buffers. -/

namespace Sys2Proof.Machine

/-! ### The memories -/

/-- Reset memories are canonical. -/
theorem reset_memoriesOk : MemoriesOk State.reset :=
  ⟨Cells.canonical_nil _, Cells.canonical_nil _, by simp [State.reset], Cells.canonical_nil _, Cells.canonical_nil _,
    Cells.canonical_nil _, Cells.canonical_nil _, by simp [State.reset]⟩

/-- The memories of a state with the same memories. -/
theorem MemoriesOk.congr {s t : State} (h : MemoriesOk s) (h1 : t.ntRam = s.ntRam) (h2 : t.paletteRam = s.paletteRam)
    (h3 : t.oam = s.oam) (h4 : t.chr = s.chr) (h5 : t.ext = s.ext) (h6 : t.fb = s.fb) : MemoriesOk t :=
  ⟨by rw [h1]; exact h.nametables, by rw [h2]; exact h.palette, by rw [h2]; exact h.paletteMirrored,
    by rw [h3]; exact h.oam, by rw [h4]; exact h.pattern, by rw [h5]; exact h.external,
    by rw [h6]; exact h.framebuffer, by rw [h6]; exact h.rowLength⟩

theorem MemoriesOk.ntWrite {s : State} (h : MemoriesOk s) (a : Nat) (v : Byte) : MemoriesOk (s.ntWrite a v) :=
  ⟨Cells.store_canonical v h.nametables (ntAddress_lt _ _), h.palette, h.paletteMirrored, h.oam, h.pattern, h.external,
    h.framebuffer, h.rowLength⟩

theorem MemoriesOk.palWrite {s : State} (h : MemoriesOk s) (i : Nat) (v : Byte) : MemoriesOk (s.palWrite i v) := by
  refine ⟨h.nametables, Cells.store_canonical v h.palette (palMirror_lt i), fun c hc => ?_, h.oam, h.pattern, h.external,
    h.framebuffer, h.rowLength⟩
  rcases Cells.mem_store hc with rfl | hc
  · exact palMirror_idem i
  · exact h.paletteMirrored c hc

theorem MemoriesOk.oamWrite {s : State} (h : MemoriesOk s) {a : Nat} (v : Byte) (ha : a < Layout.oamSize) :
    MemoriesOk (s.writeByte .oam a v) :=
  ⟨h.nametables, h.palette, h.paletteMirrored, Cells.store_canonical v h.oam ha, h.pattern, h.external, h.framebuffer,
    h.rowLength⟩

theorem MemoriesOk.chrWrite {s : State} (h : MemoriesOk s) {p : Nat} (v : Byte) (hp : p < Layout.patternSize) :
    MemoriesOk (chrWrite p v s) := by
  refine ⟨h.nametables, h.palette, h.paletteMirrored, h.oam, ?_, h.external, h.framebuffer, h.rowLength⟩
  show Memory.wf _ (if s.chrStores then Cells.store s.chr p v else s.chr)
  split
  · exact Cells.store_canonical v h.pattern hp
  · exact h.pattern

theorem MemoriesOk.vramWrite {s : State} (h : MemoriesOk s) (a : Nat) (v : Byte) : MemoriesOk (vramWrite a v s) := by
  rcases vramWrite_cases a v s with ⟨h0, e⟩ | ⟨_, _, e⟩ | ⟨_, e⟩ <;> rw [e]
  · exact h.chrWrite v h0
  · exact h.ntWrite a v
  · exact h.palWrite a v

theorem MemoriesOk.dmaCopy {s : State} (h : MemoriesOk s) (page : Byte) (n : Nat) : MemoriesOk (dmaCopy page n s) := by
  induction n with
  | zero => exact h
  | succ n ih =>
    have h1 : MemoriesOk (extRead (page.toNat * 0x100 + n) (Machine.dmaCopy page n s)).2 :=
      ih.congr rfl rfl rfl rfl rfl rfl
    exact h1.oamWrite _ (Nat.mod_lt _ (by decide))

/-- The row write keeps the framebuffer canonical when the line has its 256 indices (R48, R266). -/
theorem MemoriesOk.colorOut {s : State} (h : MemoriesOk s) {y : Nat} (hy : y < Layout.visibleLines)
    (hl : s.line.outIdx.length = Layout.screenWidth) : MemoriesOk (colorOut y s) := by
  refine ⟨h.nametables, h.palette, h.paletteMirrored, h.oam, h.pattern, h.external,
    Cells.store_canonical _ h.framebuffer hy, fun r hr => ?_⟩
  rcases Cells.mem_store hr with rfl | hr
  · exact (List.length_map _).trans hl
  · exact h.rowLength r hr

/-! ### The line buffers -/

/-- The line buffers of RESET are legal. -/
theorem cleared_lineOk : LineOk LineBuffers.cleared where
  opaqueLength := by simp [LineBuffers.cleared]
  claimedLength := by simp [LineBuffers.cleared]
  pixLength := by simp [LineBuffers.cleared]
  groupLength := by simp [LineBuffers.cleared]
  indexLength := by simp [LineBuffers.cleared]
  opaqueIsPix := by simp [LineBuffers.cleared]
  slotCount := by simp [LineBuffers.cleared]
  slotsRise := by simp [LineBuffers.cleared]
  slotsInOam := by simp [LineBuffers.cleared]
  noSpriteColourZero := by
    intro i hi
    rw [List.eq_of_mem_replicate hi]
    decide

/-- A rendered scanline leaves legal line buffers (R50 to R53, R211, R235, R260). -/
theorem render_lineOk (y : Nat) (s : State) : LineOk (renderScanline y s).line := by
  have e : (renderScanline y s).line = (sprLine y (backgroundStage s)).line := by rw [renderScanline_eq]
  rw [e]
  have hl := sprLine_line y (backgroundStage s)
  obtain ⟨b1, b2, b3⟩ := bgLine_lengths (startLine s)
  have c : ∀ l, (sprLine y (backgroundStage s)).line = l → l.bgPix = (bgLine (startLine s)).line.bgPix ∧ l.bgGroup = (bgLine (startLine s)).line.bgGroup ∧ l.bgOpaque = (bgLine (startLine s)).line.bgOpaque := by
    intro l h; rw [← h, hl]; exact ⟨rfl, rfl, rfl⟩
  obtain ⟨c1, c2, c3⟩ := c _ rfl
  obtain ⟨o1, o2⟩ := sprLine_out y (backgroundStage s)
  obtain ⟨p1, p2, p3⟩ := sprLine_slotsOk y (backgroundStage s)
  exact ⟨by rw [c3, b3, List.length_map]; exact b1, o1, by rw [c1]; exact b1, by rw [c2]; exact b2, sprLine_outIdx_length _ _, by rw [c3, c1]; exact b3, p1, p2, p3, o2⟩

end Sys2Proof.Machine
end

