-- ==== Sys2Proof/Laws/Exec.lean ====
section
/-! SUPPORT. What an operation can change, said once for the accesses of the bus master: no access moves the sequencer,
touches the framebuffer or emits an output, and none arms the NMI. -/

namespace Sys2Proof.Machine

/-- The operations of the bus master: the ports, the palette side port, the DMA. -/
def isAccess : Instr → Bool
  | .evHblank => false
  | .evNmi => false
  | .evScanline => false
  | .tick _ => false
  | .reset => false
  | .wrControl0 _ => true
  | .wrControl1 _ => true
  | .wrStatus _ => true
  | .wrSpriteAddress _ => true
  | .wrSpriteData _ => true
  | .wrScroll _ => true
  | .wrAddress _ => true
  | .wrData _ => true
  | .rdControl0 => true
  | .rdControl1 => true
  | .rdStatus => true
  | .rdSpriteAddress => true
  | .rdSpriteData => true
  | .rdScroll => true
  | .rdAddress => true
  | .rdData => true
  | .palWr _ _ => true
  | .palRd _ => true
  | .oamDma _ => true

/-- `t` is `s` but for what an access can change. -/
def AccessOnly (s t : State) : Prop :=
  t = { s with
    control0 := t.control0, control1 := t.control1, status := t.status, spriteAddress := t.spriteAddress
    spriteData := t.spriteData, scroll := t.scroll, address := t.address, data := t.data, toggle := t.toggle
    refreshData := t.refreshData, refreshLatch := t.refreshLatch, xFine := t.xFine, bufferedData := t.bufferedData
    dataLatch := t.dataLatch, ntRam := t.ntRam, paletteRam := t.paletteRam, oam := t.oam, nmiArmed := t.nmiArmed
    nmiSuppress := t.nmiSuppress, nmiTimer := t.nmiTimer, reads := t.reads, patternCalls := t.patternCalls
    chr := t.chr, draws := t.draws }

/-- An access changes no more than `AccessOnly` names (R40, R62). -/
theorem exec_access {i : Instr} {s t : State} (hi : isAccess i = true) (h : exec i s = .next t) : AccessOnly s t := by
  cases i <;> first | (cases hi; done) | skip
  case wrControl0 d => cases h; dsimp only [State.disarmNmi]; split <;> rfl
  case wrSpriteData d => cases h; split <;> rfl
  case wrScroll d => cases h; split <;> rfl
  case wrAddress d => cases h; split <;> rfl
  case wrData d => cases h; rw [vramWrite_only]; rfl
  case rdStatus => cases h; dsimp only [State.disarmNmi, State.setVblank, State.respond]; split <;> rfl
  case rdData =>
    cases h
    have e := prefetch_fetchOnly s
    unfold FetchOnly at e
    dsimp only
    rw [e]; rfl
  case oamDma p =>
    obtain rfl := Host.Outcome.next.inj h
    have e := dmaCopy_eq p Layout.oamSize s
    revert e; generalize dmaCopy p Layout.oamSize s = u
    intro e; rw [e]; rfl
  all_goals (cases h; rfl)

/-- An access arms no NMI: the schedule stays, or it is taken back with the timer at 0 (R132, R142, R290). -/
theorem exec_access_nmi {i : Instr} {s t : State} (hi : isAccess i = true) (h : exec i s = .next t) :
    (t.nmiArmed = s.nmiArmed ∧ t.nmiTimer = s.nmiTimer ∧ t.nmiSuppress = s.nmiSuppress) ∨
    (t.nmiArmed = false ∧ t.nmiTimer = 0) := by
  cases i <;> first | (cases hi; done) | skip
  case wrControl0 d =>
    cases h; dsimp only [State.disarmNmi]
    split
    · exact .inl ⟨rfl, rfl, rfl⟩
    · exact .inr ⟨rfl, rfl⟩
  case wrSpriteData d => cases h; split <;> exact .inl ⟨rfl, rfl, rfl⟩
  case wrScroll d => cases h; split <;> exact .inl ⟨rfl, rfl, rfl⟩
  case wrAddress d => cases h; split <;> exact .inl ⟨rfl, rfl, rfl⟩
  case wrData d => cases h; dsimp only; rw [vramWrite_only]; exact .inl ⟨rfl, rfl, rfl⟩
  case rdStatus =>
    cases h; dsimp only [State.disarmNmi, State.setVblank, State.respond]
    split
    · exact .inr ⟨rfl, rfl⟩
    · exact .inl ⟨rfl, rfl, rfl⟩
  case rdData =>
    cases h
    have e := prefetch_fetchOnly s
    unfold FetchOnly at e
    dsimp only
    rw [e]; exact .inl ⟨rfl, rfl, rfl⟩
  case oamDma p => rw [← Host.Outcome.next.inj h, dmaCopy_eq]; exact .inl ⟨rfl, rfl, rfl⟩
  all_goals (cases h; exact .inl ⟨rfl, rfl, rfl⟩)

/-- An access keeps the memories canonical (R44 to R46). -/
theorem exec_access_memories {i : Instr} {s t : State} (hi : isAccess i = true) (h : exec i s = .next t)
    (hm : MemoriesOk s) : MemoriesOk t := by
  cases i <;> first | (cases hi; done) | skip
  case wrControl0 d => cases h; dsimp only [State.disarmNmi]; split <;> exact hm.congr rfl rfl rfl rfl rfl rfl
  case wrSpriteData d =>
    cases h; dsimp only
    split
    · exact (hm.oamWrite d s.spriteAddress.isLt).congr rfl rfl rfl rfl rfl rfl
    · exact hm.congr rfl rfl rfl rfl rfl rfl
  case wrScroll d => cases h; split <;> exact hm.congr rfl rfl rfl rfl rfl rfl
  case wrAddress d => cases h; split <;> exact hm.congr rfl rfl rfl rfl rfl rfl
  case wrData d => cases h; exact (hm.vramWrite s.dataAddress d).congr rfl rfl rfl rfl rfl rfl
  case rdStatus =>
    cases h; dsimp only [State.disarmNmi, State.setVblank, State.respond]
    split <;> exact hm.congr rfl rfl rfl rfl rfl rfl
  case rdData =>
    cases h
    have e := prefetch_fetchOnly s
    unfold FetchOnly at e
    dsimp only
    rw [e]; exact hm.congr rfl rfl rfl rfl rfl rfl
  case palWr i d => cases h; exact hm.palWrite i d
  case oamDma p => rw [← Host.Outcome.next.inj h]; exact hm.dmaCopy p _
  all_goals (cases h; exact hm.congr rfl rfl rfl rfl rfl rfl)

/-- An access sets no bit of STATUS (R134, R142). -/
theorem exec_access_status {i : Instr} {s t : State} (hi : isAccess i = true) (h : exec i s = .next t) :
    ∀ b, t.status.getLsbD b = true → s.status.getLsbD b = true := by
  cases i <;> first | (cases hi; done) | skip
  case wrControl0 d => cases h; dsimp only [State.disarmNmi]; split <;> exact fun _ h => h
  case wrSpriteData d => cases h; split <;> exact fun _ h => h
  case wrScroll d => cases h; split <;> exact fun _ h => h
  case wrAddress d => cases h; split <;> exact fun _ h => h
  case wrData d => cases h; rw [vramWrite_only]; exact fun _ h => h
  case rdStatus =>
    cases h; dsimp only [State.disarmNmi, State.setVblank, State.respond]
    have k : ∀ b, (setFlag s.status 7 false).getLsbD b = true → s.status.getLsbD b = true := by
      intro b; unfold setFlag setBits; simp; intros; assumption
    split <;> exact k
  case rdData =>
    cases h
    have e := prefetch_fetchOnly s
    unfold FetchOnly at e
    dsimp only
    rw [e]; exact fun _ h => h
  case oamDma p =>
    obtain rfl := Host.Outcome.next.inj h
    have e := dmaCopy_eq p Layout.oamSize s
    revert e; generalize dmaCopy p Layout.oamSize s = u
    intro e; rw [e]; exact fun _ h => h
  all_goals (cases h; exact fun _ h => h)

/-- The VBLANK phase as a range of scanlines (R43). -/
theorem phase_eq_vblank (s : State) (hv : s.variant.Ok) : s.phase = .vblank ↔
    s.variant.vblankFirstScanline ≤ s.scanline ∧ s.scanline + 1 < s.variant.scanlinesPerFrame := by
  obtain ⟨h1, h2, _⟩ := hv
  simp only [Layout.visibleLines] at h1
  simp only [State.phase, phaseOf, Layout.visibleLines]
  split
  · simp; omega
  split
  · simp; omega
  split
  · simp; omega
  · simp; omega

end Sys2Proof.Machine
end

