-- ==== Sys2Proof/Laws/PerInstr.lean ====
section
/-! SUPPORT. Per operation: the encoding of every operation is matched by the opcode-map row of its mnemonic (R119). -/

namespace Sys2Proof

/-! ### The three masks of the opcode map, applied to a word made from fields -/

theorem mkWord_and_portMask (c : BitVec 4) (r : Bool) (z : BitVec 3) (a : BitVec 16) (d : Byte) :
    mkWord c r z a d &&& 0xFF000700 = mkWord c r z (a &&& 7) 0 := by
  apply BitVec.eq_of_getLsbD_eq
  intro i hi
  rw [BitVec.getLsbD_and, getLsbD_mkWord, getLsbD_mkWord]
  interval_cases i <;> simp

theorem mkWord_and_classMask (c : BitVec 4) (r : Bool) (z : BitVec 3) (a : BitVec 16) (d : Byte) :
    mkWord c r z a d &&& 0xFF000000 = mkWord c r z 0 0 := by
  apply BitVec.eq_of_getLsbD_eq
  intro i hi
  rw [BitVec.getLsbD_and, getLsbD_mkWord, getLsbD_mkWord]
  interval_cases i <;> simp

theorem mkWord_and_eventMask (c : BitVec 4) (r : Bool) (z : BitVec 3) (a : BitVec 16) (d : Byte) :
    mkWord c r z a d &&& 0xFFFFFF00 = mkWord c r z a 0 := by
  apply BitVec.eq_of_getLsbD_eq
  intro i hi
  rw [BitVec.getLsbD_and, getLsbD_mkWord, getLsbD_mkWord]
  interval_cases i <;> simp

namespace Laws.Encoded

/-- The encoding of the operation is matched by the row of its mnemonic. -/
def Statement (i : Instr) : Prop := ∃ row ∈ opcodeMap, row.mnemonic = i.mnemonic ∧ row.matchesWord (encode i) = true

/-- A row of the map with the operation's mnemonic, its masked encoding and that it is the row's match. -/
theorem of_row {i : Instr} (row : OpcodeRow) (m : Word) (hm : row ∈ opcodeMap) (hn : row.mnemonic = i.mnemonic)
    (he : encode i &&& row.mask = m) (hp : m = row.pattern) : Statement i :=
  ⟨row, hm, hn, by simp [OpcodeRow.matchesWord, he, hp]⟩

theorem wrControl0 (d : Byte) : Statement (.wrControl0 d) :=
  of_row ⟨"WR_CONTROL0", 0x00000000, 0xFF000700⟩ _ (by decide) rfl (mkWord_and_portMask _ _ _ _ _) (by decide)

theorem wrControl1 (d : Byte) : Statement (.wrControl1 d) :=
  of_row ⟨"WR_CONTROL1", 0x00000100, 0xFF000700⟩ _ (by decide) rfl (mkWord_and_portMask _ _ _ _ _) (by decide)

theorem wrStatus (d : Byte) : Statement (.wrStatus d) :=
  of_row ⟨"WR_STATUS", 0x00000200, 0xFF000700⟩ _ (by decide) rfl (mkWord_and_portMask _ _ _ _ _) (by decide)

theorem wrSpriteAddress (d : Byte) : Statement (.wrSpriteAddress d) :=
  of_row ⟨"WR_SPRITE_ADDRESS", 0x00000300, 0xFF000700⟩ _ (by decide) rfl (mkWord_and_portMask _ _ _ _ _) (by decide)

theorem wrSpriteData (d : Byte) : Statement (.wrSpriteData d) :=
  of_row ⟨"WR_SPRITE_DATA", 0x00000400, 0xFF000700⟩ _ (by decide) rfl (mkWord_and_portMask _ _ _ _ _) (by decide)

theorem wrScroll (d : Byte) : Statement (.wrScroll d) :=
  of_row ⟨"WR_SCROLL", 0x00000500, 0xFF000700⟩ _ (by decide) rfl (mkWord_and_portMask _ _ _ _ _) (by decide)

theorem wrAddress (d : Byte) : Statement (.wrAddress d) :=
  of_row ⟨"WR_ADDRESS", 0x00000600, 0xFF000700⟩ _ (by decide) rfl (mkWord_and_portMask _ _ _ _ _) (by decide)

theorem wrData (d : Byte) : Statement (.wrData d) :=
  of_row ⟨"WR_DATA", 0x00000700, 0xFF000700⟩ _ (by decide) rfl (mkWord_and_portMask _ _ _ _ _) (by decide)

theorem rdControl0 : Statement .rdControl0 :=
  of_row ⟨"RD_CONTROL0", 0x08000000, 0xFF000700⟩ _ (by decide) rfl (mkWord_and_portMask _ _ _ _ _) (by decide)

theorem rdControl1 : Statement .rdControl1 :=
  of_row ⟨"RD_CONTROL1", 0x08000100, 0xFF000700⟩ _ (by decide) rfl (mkWord_and_portMask _ _ _ _ _) (by decide)

theorem rdStatus : Statement .rdStatus :=
  of_row ⟨"RD_STATUS", 0x08000200, 0xFF000700⟩ _ (by decide) rfl (mkWord_and_portMask _ _ _ _ _) (by decide)

theorem rdSpriteAddress : Statement .rdSpriteAddress :=
  of_row ⟨"RD_SPRITE_ADDRESS", 0x08000300, 0xFF000700⟩ _ (by decide) rfl (mkWord_and_portMask _ _ _ _ _) (by decide)

theorem rdSpriteData : Statement .rdSpriteData :=
  of_row ⟨"RD_SPRITE_DATA", 0x08000400, 0xFF000700⟩ _ (by decide) rfl (mkWord_and_portMask _ _ _ _ _) (by decide)

theorem rdScroll : Statement .rdScroll :=
  of_row ⟨"RD_SCROLL", 0x08000500, 0xFF000700⟩ _ (by decide) rfl (mkWord_and_portMask _ _ _ _ _) (by decide)

theorem rdAddress : Statement .rdAddress :=
  of_row ⟨"RD_ADDRESS", 0x08000600, 0xFF000700⟩ _ (by decide) rfl (mkWord_and_portMask _ _ _ _ _) (by decide)

theorem rdData : Statement .rdData :=
  of_row ⟨"RD_DATA", 0x08000700, 0xFF000700⟩ _ (by decide) rfl (mkWord_and_portMask _ _ _ _ _) (by decide)

theorem palWr (index : Nat) (d : Byte) : Statement (.palWr index d) :=
  of_row ⟨"PAL_WR", 0x10000000, 0xFF000000⟩ _ (by decide) rfl (mkWord_and_classMask _ _ _ _ _) (by decide)

theorem palRd (index : Nat) : Statement (.palRd index) :=
  of_row ⟨"PAL_RD", 0x18000000, 0xFF000000⟩ _ (by decide) rfl (mkWord_and_classMask _ _ _ _ _) (by decide)

theorem oamDma (page : Byte) : Statement (.oamDma page) :=
  of_row ⟨"OAM_DMA", 0x20000000, 0xFF000000⟩ _ (by decide) rfl (mkWord_and_classMask _ _ _ _ _) (by decide)

theorem evHblank : Statement .evHblank :=
  of_row ⟨"EV_HBLANK", 0x30000000, 0xFFFFFF00⟩ _ (by decide) rfl (mkWord_and_eventMask _ _ _ _ _) (by decide)

theorem evNmi : Statement .evNmi :=
  of_row ⟨"EV_NMI", 0x30000100, 0xFFFFFF00⟩ _ (by decide) rfl (mkWord_and_eventMask _ _ _ _ _) (by decide)

theorem evScanline : Statement .evScanline :=
  of_row ⟨"EV_SCANLINE", 0x30000200, 0xFFFFFF00⟩ _ (by decide) rfl (mkWord_and_eventMask _ _ _ _ _) (by decide)

theorem tick (count : Nat) : Statement (.tick count) :=
  of_row ⟨"TICK", 0x40000000, 0xFF000000⟩ _ (by decide) rfl (mkWord_and_classMask _ _ _ _ _) (by decide)

theorem reset : Statement .reset :=
  of_row ⟨"RESET", 0x50000000, 0xFF000000⟩ _ (by decide) rfl (mkWord_and_classMask _ _ _ _ _) (by decide)

end Laws.Encoded

end Sys2Proof
end

