-- ==== Sys2Proof/Machine/Trace.lean ====
section
/-! DEFINITION. The text form of a trace (R126) and the pseudo-operations with their expansions (R127). -/

namespace Sys2Proof.Machine

/-- One operation as a line of a trace, numbers in decimal (R7, R126). -/
def traceLine : Instr → String
  | .wrControl0 d => "WR CONTROL0, " ++ toString d.toNat
  | .wrControl1 d => "WR CONTROL1, " ++ toString d.toNat
  | .wrStatus d => "WR STATUS, " ++ toString d.toNat
  | .wrSpriteAddress d => "WR SPRITE_ADDRESS, " ++ toString d.toNat
  | .wrSpriteData d => "WR SPRITE_DATA, " ++ toString d.toNat
  | .wrScroll d => "WR SCROLL, " ++ toString d.toNat
  | .wrAddress d => "WR ADDRESS, " ++ toString d.toNat
  | .wrData d => "WR DATA, " ++ toString d.toNat
  | .rdControl0 => "RD CONTROL0"
  | .rdControl1 => "RD CONTROL1"
  | .rdStatus => "RD STATUS"
  | .rdSpriteAddress => "RD SPRITE_ADDRESS"
  | .rdSpriteData => "RD SPRITE_DATA"
  | .rdScroll => "RD SCROLL"
  | .rdAddress => "RD ADDRESS"
  | .rdData => "RD DATA"
  | .palWr index d => "PALWR " ++ toString index ++ ", " ++ toString d.toNat
  | .palRd index => "PALRD " ++ toString index
  | .oamDma page => "DMA " ++ toString page.toNat
  | .evHblank => "EV HBLANK"
  | .evNmi => "EV NMI"
  | .evScanline => "EV SCANLINE"
  | .tick count => "TICK " ++ toString count
  | .reset => "RESET"

/-- The pseudo-operations of R127. -/
inductive Pseudo where
  | setAddr (a : BitVec 14)
  | setScroll (x y : Byte)
  | poke (a : BitVec 14) (b : Byte)
  | peek (a : BitVec 14)
  | oamSet (i b : Byte)
  | line
  | lines (n : Nat)
  | frame
  | sync
deriving DecidableEq, Repr

/-- `LINES n`: LINE repeated `n` times (R127). -/
def expandLines : Nat → List Instr
  | 0 => []
  | n + 1 => .evHblank :: .evScanline :: expandLines n

/-- `SETADDR a` (R127). -/
def expandSetAddr (a : BitVec 14) : List Instr := [.wrAddress ((a.extractLsb' 8 6).setWidth 8), .wrAddress (a.setWidth 8)]

/-- The expansion of a pseudo-operation (R127). DESIGN CHOICE (log 18): the second read of `PEEK 0x3EFF` with an
increment of 1 is at 0x3F00, so it returns palette entry 0 as R147 has it, not the byte at 0x3EFF that R127 promises. -/
def Pseudo.expand (v : Variant) : Pseudo → List Instr
  | .setAddr a => expandSetAddr a
  | .setScroll x y => [.wrScroll x, .wrScroll y]
  | .poke a b => expandSetAddr a ++ [.wrData b]
  | .peek a => expandSetAddr a ++ [.rdData, .rdData]
  | .oamSet i b => [.wrSpriteAddress i, .wrSpriteData b]
  | .line => [.evHblank, .evScanline]
  | .lines n => expandLines n
  | .frame => expandLines v.scanlinesPerFrame
  | .sync => [.rdStatus]

/-- A trace as the transaction words it presents (R110, R126). -/
def wordsOf (trace : List Instr) : List Word := trace.map encode

end Sys2Proof.Machine
end

