-- ==== Sys2Proof/Tests/Slice0.lean ====
section
/-! SUPPORT. Tests of the model's author. Expected values come from the vectors of 95_test_vectors.md (ids E, Q, M, O,
X, T, Y, G, S, Z; the vector is named in each docstring) or from the formats of 30_encoding.md. The theorems named
`witness_…` show, for every statement with hypotheses, states and operands that meet them. -/

namespace Sys2Proof.Tests

open Sys2Proof Sys2Proof.Machine

/-- The predicate `p` holds of the next state an outcome answers. -/
def after (r : Host.Outcome State Fault Refusal) (p : State → Bool) : Bool :=
  match r with
  | .next t => p t
  | .fault _ => false
  | .refused _ => false

/-- The outcome is a refusal for the given reason. -/
def refusedFor (r : Host.Outcome State Fault Refusal) (e : Refusal) : Bool :=
  match r with
  | .next _ => false
  | .fault _ => false
  | .refused x => decide (x = e)

/-- The word is decoded to the operation. -/
def reads (w : Word) (i : Instr) : Bool :=
  match decode w with
  | .ok j => decide (j = i)
  | .error _ => false

/-- The word is refused for the reason. -/
def rejects (w : Word) (e : DecodeError) : Bool :=
  match decode w with
  | .ok _ => false
  | .error x => decide (x = e)

/-! ### WellFormed -/

theorem test_wellFormed_palWr : (Instr.palWr 32 0).wellFormed = false ∧ (Instr.palWr 31 0).wellFormed = true := by decide
theorem test_wellFormed_palRd : (Instr.palRd 32).wellFormed = false ∧ (Instr.palRd 31).wellFormed = true := by decide
theorem test_wellFormed_tick : (Instr.tick 65536).wellFormed = false ∧ (Instr.tick 65535).wellFormed = true := by decide

/-! ### Decoding, from words written out (R112 to R117, vectors E1 to E24) -/

/-- Port writes: CLASS 0, RNW 0, ADDR the offset, DATA the byte. -/
theorem test_decode_port_writes :
    reads 0x00000083 (.wrControl0 0x83) ∧ reads 0x0000011E (.wrControl1 0x1E) ∧ reads 0x000002FF (.wrStatus 0xFF) ∧
    reads 0x0000037C (.wrSpriteAddress 0x7C) ∧ reads 0x00000455 (.wrSpriteData 0x55) ∧
    reads 0x0000057D (.wrScroll 0x7D) ∧ reads 0x00000623 (.wrAddress 0x23) ∧ reads 0x00000741 (.wrData 0x41) := by decide

/-- E2, E3, E24: only `ADDR mod 8` counts; the all-zero word is legal. -/
theorem test_decode_port_mirrors :
    reads 0x00200741 (.wrData 0x41) ∧ reads 0x00FFFF41 (.wrData 0x41) ∧ reads 0x00000000 (.wrControl0 0) := by decide

/-- Port reads: RNW 1; E4 and E5: the DATA field of a read is ignored. -/
theorem test_decode_port_reads :
    reads 0x08000000 .rdControl0 ∧ reads 0x08000100 .rdControl1 ∧ reads 0x08000200 .rdStatus ∧
    reads 0x082002AB .rdStatus ∧ reads 0x08000300 .rdSpriteAddress ∧ reads 0x08000400 .rdSpriteData ∧
    reads 0x08000500 .rdScroll ∧ reads 0x08000600 .rdAddress ∧ reads 0x08000700 .rdData := by decide

/-- E6 to E10. -/
theorem test_decode_side_ports :
    reads 0x10001F2A (.palWr 0x1F 0x2A) ∧ reads 0x1000302A (.palWr 0x10 0x2A) ∧ reads 0x18001000 (.palRd 0x10) ∧
    reads 0x20000200 (.oamDma 0x02) ∧ reads 0x20120277 (.oamDma 0x02) := by decide

/-- E11 to E13, E15 to E18. -/
theorem test_decode_events :
    reads 0x30000000 .evHblank ∧ reads 0x30000100 .evNmi ∧ reads 0x30000200 .evScanline ∧
    reads 0x40015500 (.tick 341) ∧ reads 0x40000000 (.tick 0) ∧ reads 0x50000000 .reset ∧ reads 0x5000FFFF .reset := by decide

/-- E14, E19 to E23. -/
theorem test_decode_refusals :
    rejects 0x30000300 .badEventCode ∧ rejects 0x60000000 .reservedClass ∧ rejects 0xF0000000 .reservedClass ∧
    rejects 0x01000741 .reservedField ∧ rejects 0x28000200 .reservedField ∧ rejects 0x38000000 .reservedField := by decide

/-- The host's question numbers bits as the word does. -/
theorem test_decodeTableWord : decodeTableWord 32 0x30000200 = some .evScanline ∧ decodeTableWord 32 0xF0000000 = none := by
  decide

/-! ### The resolver (vectors X1 to X8) and PalMirror (M3) -/

theorem test_resolve :
    resolve .vertical 0x1FFF = .pattern 0x1FFF ∧ resolve .vertical 0x27FF = .nt 1 0x3FF ∧
    resolve .horizontal 0x27FF = .nt 0 0x3FF ∧ resolve .vertical 0x2BC0 = .nt 0 0x3C0 ∧
    resolve .horizontal 0x2BC0 = .nt 1 0x3C0 ∧ resolve .fourScreen 0x3EFF = .nt 3 0x2FF ∧
    resolve .none 0x3F1C = .palette 0x0C ∧ resolve .none 0x3FE4 = .palette 0x04 ∧ resolve .none 0x4000 = .pattern 0 ∧
    resolve .none 0x7FFF = .palette 0x1F := by decide

theorem test_ntFold :
    (List.range 4).map (ntFold .none) = [0, 1, 2, 3] ∧ (List.range 4).map (ntFold .vertical) = [0, 1, 0, 1] ∧
    (List.range 4).map (ntFold .horizontal) = [0, 0, 1, 1] ∧ (List.range 4).map (ntFold .high) = [1, 1, 1, 1] ∧
    (List.range 4).map (ntFold .low) = [0, 0, 0, 0] ∧ (List.range 4).map (ntFold .fourScreen) = [0, 1, 2, 3] := by decide

theorem test_palMirror : (List.range 32).map palMirror =
    [0, 1, 2, 3, 4, 5, 6, 7, 8, 9, 10, 11, 12, 13, 14, 15, 0, 17, 18, 19, 4, 21, 22, 23, 8, 25, 26, 27, 12, 29, 30, 31] := by
  decide

/-! ### Port writes -/

/-- A state right after reset with one change of configuration: the write limitation off, as 95_test_vectors.md has it. -/
def base : State := { State.reset with variant := { Variant.ntsc with spriteWriteLimit := false } }

/-- Q1. -/
theorem test_wrControl0 : after (exec (.wrControl0 0x83) base) (fun t =>
    t.control0 == 0x83 && t.refreshLatch == 0x0C00 && t.refreshData == 0 && t.dataLatch == 0x83 && !t.nmiArmed) = true := by
  decide

/-- Q23, its first write. -/
theorem test_wrControl0_cancels :
    after (exec (.wrControl0 0x00) { base with control0 := 0x80, nmiArmed := true, nmiTimer := 7 }) (fun t =>
      !t.nmiArmed && t.nmiTimer == 0) = true := by decide

/-- R133. -/
theorem test_wrControl1 : after (exec (.wrControl1 0x1E) base) (fun t => t.control1 == 0x1E && t.dataLatch == 0x1E) = true := by
  decide

/-- Q17, its write. -/
theorem test_wrStatus : after (exec (.wrStatus 0xFF) base) (fun t => t.status == 0 && t.dataLatch == 0xFF) = true := by decide

/-- R135. -/
theorem test_wrSpriteAddress : after (exec (.wrSpriteAddress 0xFE) base) (fun t => t.spriteAddress == 0xFE) = true := by decide

/-- Q20, the write at cursor 0xFF. -/
theorem test_wrSpriteData : after (exec (.wrSpriteData 0x12) { base with spriteAddress := 0xFF }) (fun t =>
    t.oam == [(0xFF, 0x12)] && t.spriteAddress == 0x00) = true := by decide

/-- Q21: ignored on a visible scanline under the limitation. -/
theorem test_wrSpriteData_limited :
    after (exec (.wrSpriteData 0x55) { State.reset with spriteAddress := 0x10 }) (fun t =>
      t.oam == [] && t.spriteAddress == 0x10 && t.spriteData == 0x55 && t.dataLatch == 0x55) = true := by decide

/-- Q2, the first write. -/
theorem test_wrScroll_first : after (exec (.wrScroll 0x7D) base) (fun t =>
    t.refreshLatch == 0x000F && t.xFine == 5 && t.toggle && t.refreshData == 0) = true := by decide

/-- Q2, the second write. -/
theorem test_wrScroll_second :
    after (exec (.wrScroll 0x5E) { base with refreshLatch := 0x000F, xFine := 5, toggle := true }) (fun t =>
      t.refreshLatch == 0x616F && t.xFine == 5 && !t.toggle && t.refreshData == 0) = true := by decide

/-- Q5, the first write: bits 7:6 dropped, bit 14 cleared. -/
theorem test_wrAddress_first : after (exec (.wrAddress 0xFF) { base with refreshLatch := 0x7FFF }) (fun t =>
    t.refreshLatch == 0x3FFF && t.refreshData == 0 && t.toggle) = true := by decide

/-- Q4, the second write. -/
theorem test_wrAddress_second : after (exec (.wrAddress 0xC5) { base with refreshLatch := 0x2300, toggle := true }) (fun t =>
    t.refreshLatch == 0x23C5 && t.refreshData == 0x23C5 && !t.toggle) = true := by decide

/-- Q10: the palette through the DATA port, the address passes 0x3FFF. -/
theorem test_wrData_palette : after (exec (.wrData 0x77) { base with refreshData := 0x3FFF }) (fun t =>
    t.paletteRam == [(0x1F, 0x77)] && t.refreshData == 0x4000) = true := by decide

/-- Q11, its second write: pattern space is not writable, the address advances by 32. -/
theorem test_wrData_pattern : after (exec (.wrData 0x11) { base with control0 := 0x04, refreshData := 0x4010 }) (fun t =>
    t.chr == [] && t.patternCalls == [.write 0x0010 0x11] && t.refreshData == 0x4030 && t.ntRam == []) = true := by decide

/-- U16, R82: a writable board behind the open model takes no byte into the array; the closed model does. -/
theorem test_wrData_writable :
    let s := { base with variant := { base.variant with chrWritable := true }, refreshData := 0x0010 }
    after (exec (.wrData 0x11) s) (fun t => t.chr == [] && t.patternCalls == [.write 0x0010 0x11]) = true ∧
    after (exec (.wrData 0x11) { s with patternModel := .closedModel }) (fun t => t.chr == [(0x0010, 0x11)]) = true := by
  decide

/-! ### Port reads -/

/-- Q18, its read. -/
theorem test_rdControl0 : after (exec .rdControl0 { base with dataLatch := 0x7D, toggle := true }) (fun t =>
    t.reads == [0x7D] && t.toggle) = true := by decide

/-- Q19, one read each. -/
theorem test_rdControl1 : after (exec .rdControl1 { base with dataLatch := 0x1E, control1 := 0x1F }) (fun t => t.reads == [0x1E]) = true := by
  decide
theorem test_rdScroll : after (exec .rdScroll { base with dataLatch := 0x1E }) (fun t => t.reads == [0x1E]) = true := by decide
theorem test_rdAddress : after (exec .rdAddress { base with dataLatch := 0x1E }) (fun t => t.reads == [0x1E]) = true := by decide
theorem test_rdSpriteAddress : after (exec .rdSpriteAddress { base with dataLatch := 0x1E, spriteAddress := 3 }) (fun t =>
    t.reads == [0x1E] && t.spriteAddress == 3) = true := by decide

/-- Q15. -/
theorem test_rdStatus : after (exec .rdStatus { base with status := 0xC0, dataLatch := 0x1B, toggle := true }) (fun t =>
    t.reads == [0xDB] && t.status == 0x40 && !t.toggle && t.dataLatch == 0xDB && !t.nmiSuppress) = true := by decide

/-- T17, its first read, at (240, 340): inside the race window, before vblank entry. -/
theorem test_rdStatus_race : after (exec .rdStatus { base with scanline := 240, dot := 340, control0 := 0x80, dataLatch := 0x80 }) (fun t =>
    t.reads == [0x00] && t.nmiSuppress) = true := by decide

/-- R144, Q20: the cursor stays. -/
theorem test_rdSpriteData : after (exec .rdSpriteData { base with spriteAddress := 1, oam := [(0, 0x34), (1, 0x56)] }) (fun t =>
    t.reads == [0x56] && t.spriteAddress == 1 && t.dataLatch == 0x56) = true := by decide

/-- Q12, its first read. -/
theorem test_rdData : after (exec .rdData { base with ntRam := [(0x010, 0x41)], bufferedData := 0xEE, refreshData := 0x2010 }) (fun t =>
    t.reads == [0xEE] && t.bufferedData == 0x41 && t.refreshData == 0x2011) = true := by decide

/-- Q13, its read: the palette at once, the nametable byte underneath in the buffer. -/
theorem test_rdData_palette :
    after (exec .rdData { base with paletteRam := [(0, 0x2A)], ntRam := [(0x400 + 0x310, 0x99)], refreshData := 0x3F10 }) (fun t =>
      t.reads == [0x2A] && t.bufferedData == 0x99 && t.refreshData == 0x3F11) = true := by decide

/-- R147 at the edge of the palette window (log 18): the second read of `PEEK 0x3EFF` is at 0x3F00. -/
theorem test_peek_edge :
    after (runOps [.rdData, .rdData] { base with refreshData := 0x3EFF, ntRam := [(0x6FF, 0x41)], paletteRam := [(0, 0x2A)], bufferedData := 0xEE })
      (fun t => t.reads == [0xEE, 0x2A]) = true := by decide

/-! ### Palette side port and DMA -/

/-- M1. -/
theorem test_palWr : after (exec (.palWr 0x10 0x2A) base) (fun t => t.paletteRam == [(0, 0x2A)] && t.dataLatch == 0) = true := by
  decide
theorem test_palRd : after (exec (.palRd 0x10) { base with paletteRam := [(0, 0xCF)], dataLatch := 0x11 }) (fun t =>
    t.reads == [0xCF] && t.dataLatch == 0x11) = true := by decide

/-- O2, the first three bytes of the page: the wrap past 0xFF, the cursor unchanged. -/
theorem test_oamDma :
    let t := dmaCopy 0x02 3 { base with spriteAddress := 0xFE, ext := [(0x200, 0x5A), (0x201, 0x5B), (0x202, 0x58), (0x2FF, 0xA5)] }
    t.oam = [(0x00, 0x58), (0xFE, 0x5A), (0xFF, 0x5B)] ∧ t.spriteAddress = 0xFE ∧ dmaTarget 0xFE 255 = 0xFD := by decide

/-! ### Events, TICK, RESET -/

/-- T20. -/
theorem test_evScanline_prerender :
    after (exec .evScanline { base with status := 0xE0, scanline := 260, hblankDone := true, nmiSuppress := true }) (fun t =>
      t.scanline == 261 && t.status == 0 && !t.nmiSuppress && t.outputs == [.scanline 261, .vblank false]) = true := by decide

/-- T21, the wrap: the vertical reload. -/
theorem test_evScanline_wrap :
    after (exec .evScanline { base with control1 := 0x08, refreshLatch := 0x696F, scanline := 261, hblankDone := true }) (fun t =>
      t.scanline == 0 && t.refreshData == 0x696F && t.outputs == [.scanline 0]) = true := by decide

/-- R174: an armed NMI is delivered. -/
theorem test_evNmi : after (exec .evNmi { base with nmiArmed := true, nmiTimer := 3 }) (fun t =>
    t.outputs == [.nmi] && !t.nmiArmed && t.nmiTimer == 0) = true := by decide

/-- T15. -/
theorem test_evNmi_idle : exec .evNmi base = .next base := rfl

/-- T6, its 12th tick. -/
theorem test_tick_nmi : after (exec (.tick 1) { base with scanline := 241, dot := 11, nmiArmed := true, nmiTimer := 1 }) (fun t =>
    t.dot == 12 && t.nmiTimer == 0 && !t.nmiArmed && t.outputs == [.nmi]) = true := by decide

/-- T7, its last tick: SCANLINE, VBLANK, NMI in this order. -/
theorem test_tick_order :
    after (exec (.tick 1) { base with variant := { Variant.ntsc with nmiDelayDots := 0 }, control0 := 0x80, scanline := 240
                                      dot := 340, hblankDone := true }) (fun t =>
      t.scanline == 241 && t.dot == 0 && t.outputs == [.scanline 241, .vblank true, .nmi]) = true := by decide

/-- Z1. -/
theorem test_reset :
    after (exec .reset { base with control0 := 0x80, nmiArmed := true, toggle := true, refreshData := 0x23C5, scanline := 241
                                   oam := [(0, 0x12)], paletteRam := [(0, 0x2A)] }) (fun t =>
      t.control0 == 0 && !t.nmiArmed && !t.toggle && t.refreshData == 0 && t.scanline == 0 && t.outputs == [] &&
      t.oam == [(0, 0x12)] && t.paletteRam == [(0, 0x2A)]) = true := by decide

/-! ### EV_HBLANK on a visible scanline -/

/-- Cells `[lo, lo + n)` holding 0, but for the listed ones. -/
def zeros (lo n : Nat) (but : Memory) : Memory :=
  (List.range' lo n).map fun a => (a, (Cells.lookup but a).getD 0)

/-- The state of vector G1, with the cells its line reads: nametable row 2 of banks 0 and 1, their first attribute
rows, row 2 of tiles 0x00 and 0x41 of page 1, and OAM with no sprite in range. -/
def g1 : State := { base with
  patternModel := .closedModel, control0 := 0x10, control1 := 0x0A, refreshData := 0x2043, refreshLatch := 0x0003, xFine := 5, scanline := 10
  ntRam := zeros 0x040 32 [(0x043, 0x41)] ++ zeros 0x3C0 8 [(0x3C0, 0xE4)] ++ zeros 0x440 32 [] ++ zeros 0x7C0 8 []
  chr := [(0x1002, 0), (0x100A, 0), (0x1412, 0x0F), (0x141A, 0x33)]
  oam := (List.range' 0 256).map fun a => (a, 0xF0) }

set_option maxRecDepth 100000 in
/-- G1: the background line, fine scroll, the attribute group and the address afterwards. -/
theorem test_evHblank_background : after (exec .evHblank g1) (fun t =>
    t.line.outIdx.take 4 == [13, 15, 15, 0] && t.refreshData == 0x3043) = true := by decide

/-- The state of vector S1 before its last event, with the cells its line reads. -/
def s1 : State := { base with
  patternModel := .closedModel, control1 := 0x1E, refreshData := 0x2040, scanline := 18
  ntRam := zeros 0x040 32 [(0x044, 0x01)] ++ zeros 0x3C0 8 [(0x3C1, 0x20)] ++ zeros 0x440 1 [] ++ zeros 0x7C0 1 []
  chr := [(0x02, 0), (0x0A, 0), (0x10, 0xFF), (0x12, 0xFF), (0x18, 0), (0x1A, 0)]
  oam := [(0, 17), (1, 1), (2, 1), (3, 36)] ++ (List.range' 4 252).map fun a => (a, 0xF0) }

set_option maxRecDepth 100000 in
/-- S1 and P4: a sprite over the background, the sprite-0 hit, the address afterwards; a claimed column and an unclaimed
one. -/
theorem test_evHblank_sprite : after (exec .evHblank s1) (fun t =>
    (t.line.outIdx.drop 30).take 16 ==
      [0, 0, 9, 9, 9, 9, 0x15, 0x15, 0x15, 0x15, 0x15, 0x15, 0x15, 0x15, 0, 0] && t.status == 0x40 &&
    t.refreshData == 0x3040 && (t.claimant 36).isSome && (t.claimant 35).isNone) = true := by decide

/-- Y1, Y3 to Y8: the vertical increment; Y10: after the horizontal reload. -/
theorem test_nextRow :
    nextRow 0x0000 = 0x1000 ∧ nextRow 0x7000 = 0x0020 ∧ nextRow 0x73A0 = 0x0800 ∧ nextRow 0x7BA0 = 0x0000 ∧
    nextRow 0x73C0 = 0x03E0 ∧ nextRow 0x73E0 = 0x0000 ∧ nextRow 0x7FFF = 0x0C1F ∧
    nextRow (reloadHorizontal 0x1234 0x041F) = 0x263F := by decide

/-- The planes of R248's example: plane 0 alone gives 1, both give 3; plane 1 alone gives 2 (R206). -/
theorem test_planePixel : planePixel 0x03 0x01 1 = 1 ∧ planePixel 0x03 0x01 0 = 3 ∧ planePixel 0x00 0x01 0 = 2 := by decide

/-- R239, vector S13: the plane addresses of an 8 x 16 sprite with FLIP_V, and R240's reversals. -/
theorem test_spriteFetch :
    tallPatternAddress 0x03 15 = 0x1037 ∧ tallPatternAddress 0x03 8 = 0x1030 ∧ tallPatternAddress 0x03 7 = 0x1027 ∧
    tallPatternAddress 0x03 0 = 0x1020 ∧ bitReverse8 0xC0 = 0x03 ∧ bitReverse8 0x0F = 0xF0 := by decide

/-! ### Witnesses: the hypotheses of each statement can be met -/

theorem witness_DecodeEncodeRoundTrip :
    (Instr.palWr 31 0xFF).wellFormed = true ∧ (Instr.palRd 0).wellFormed = true ∧ (Instr.tick 65535).wellFormed = true := by
  decide

theorem witness_OpcodeMapAgreesWithDecoder :
    decode 0x0FFFFFFF = .error .reservedField ∧ decode 0x08FFFFFF = .ok .rdData ∧ decode 0x5FFFFFFF = .error .reservedField ∧
    decode 0x40FFFFFF = .ok (.tick 65535) := ⟨rfl, rfl, rfl, rfl⟩

theorem witness_StepPerformsThePresentedOperation :
    { base with pending := [0x40000100, 0x50000000] }.pending = 0x40000100 :: [0x50000000] ∧
    decode 0x40000100 = .ok (.tick 1) := ⟨rfl, rfl⟩

/-- A word at the edge of each clause. -/
theorem witness_UnspelledWordsAreRefused :
    ({ base with pending := [0x60000000] }.pending = [0x60000000] ∧ 6 ≤ (wordClass 0x60000000).toNat) ∧
    ((wordClass 0x51000000).toNat < 6 ∧ wordZero 0x51000000 ≠ 0) ∧
    (2 ≤ (wordClass 0x28000000).toNat ∧ (wordClass 0x58000000).toNat < 6 ∧ wordRnw 0x28000000 = true) ∧
    ((wordClass 0x30000300).toNat = 3 ∧ wordZero 0x30000300 = 0 ∧ wordRnw 0x30000300 = false ∧
      3 ≤ (wordAddr 0x30000300).toNat) := ⟨⟨rfl, by decide⟩, by decide, by decide, by decide⟩

/-- Each way an operation is refused. -/
theorem witness_OperationsNeverFault :
    exec .evHblank { base with hblankDone := true } = .refused .hblankTwice ∧
    exec .evScanline base = .refused .scanlineWithoutHblank ∧
    refusedFor (exec (.tick 1) { base with dot := 340 }) .scanlineWithoutHblank = true ∧
    refusedFor (exec (.tick 1) { base with dot := 255, hblankDone := true }) .hblankTwice = true :=
  ⟨rfl, rfl, by decide, by decide⟩

theorem witness_WriteControl0 : (0x7F : Byte).getLsbD 7 = false ∧ (0x80 : Byte).getLsbD 7 = true := by decide

/-- Both windows, at the boundary scanlines. -/
theorem witness_WriteSpriteData :
    (base.variant.spriteWriteLimit = false ∨ 239 < base.scanline) ∧
    239 < { State.reset with scanline := 240 }.scanline ∧
    (State.reset.variant.spriteWriteLimit = true ∧ { State.reset with scanline := 239 }.scanline ≤ 239) := by decide

theorem witness_toggle : base.toggle = false ∧ { base with toggle := true }.toggle = true := by decide

/-- Every kind of location, at its boundaries; the array takes the byte only in the closed model with CHR_WRITABLE. -/
theorem witness_WriteData :
    (let s := { base with patternModel := .closedModel, variant := { base.variant with chrWritable := true } }
     s.patternModel = .closedModel ∧ s.variant.chrWritable = true) ∧
    ¬ (base.patternModel = .closedModel ∧ base.variant.chrWritable = true) ∧
    ¬ (s1.patternModel = .closedModel ∧ s1.variant.chrWritable = true) ∧
    (resolve .vertical (0x2000 % 16384)).cell = some (.nametable, 0) ∧
    (resolve .vertical (0x3EFF % 16384)).cell = some (.nametable, 0x6FF) ∧
    (resolve .vertical (0x7F00 % 16384)).cell = some (.palette, 0) ∧
    resolve .vertical (0x5FFF % 16384) = .pattern 0x1FFF := by decide

theorem witness_ReadsOfWriteOnlyPorts :
    Instr.rdAddress ∈ [Instr.rdControl0, .rdControl1, .rdSpriteAddress, .rdScroll, .rdAddress] := by decide

/-- The race window from both sides: (240, 340), (241, 0), (241, 1) inside, (240, 339), (241, 2) outside. -/
theorem witness_ReadStatus :
    let v := base.variant
    (240 + 1 = v.vblankFirstScanline ∧ v.dotsPerLine ≤ 340 + v.nmiRaceWindow) ∧
    (241 = v.vblankFirstScanline ∧ 1 ≤ v.nmiRaceWindow) ∧
    ¬ ((240 = v.vblankFirstScanline ∧ 339 ≤ v.nmiRaceWindow) ∨ (240 + 1 = v.vblankFirstScanline ∧ v.dotsPerLine ≤ 339 + v.nmiRaceWindow)) ∧
    ¬ ((241 = v.vblankFirstScanline ∧ 2 ≤ v.nmiRaceWindow) ∨ (241 + 1 = v.vblankFirstScanline ∧ v.dotsPerLine ≤ 2 + v.nmiRaceWindow)) ∧
    v.securityValue = 0 := by decide

theorem witness_ReadData :
    0x3F00 ≤ { base with refreshData := 0x7F00 }.refreshData.toNat % 16384 ∧
    (0x2000 ≤ { base with refreshData := 0x3EFF }.refreshData.toNat % 16384 ∧
      { base with refreshData := 0x3EFF }.refreshData.toNat % 16384 < 0x3F00) ∧
    (0x2000 ≤ { base with refreshData := 0x2000 }.refreshData.toNat % 16384) ∧
    { base with refreshData := 0x5FFF }.refreshData.toNat % 16384 < 0x2000 := by decide

/-- The lowest and the highest address of the statement, with each increment. -/
theorem witness_DataReadsLagOneBehind :
    (base.toggle = false ∧ 0x2000 ≤ (0xE0 : Byte).toNat % 64 * 256 + (0x00 : Byte).toNat) ∧
    (0x3E : Byte).toNat % 64 * 256 + (0xFE : Byte).toNat + (if base.control0.getLsbD 2 then 32 else 1) < 0x3F00 ∧
    (0x3E : Byte).toNat % 64 * 256 + (0xDF : Byte).toNat +
      (if { base with control0 := 0x04 }.control0.getLsbD 2 then 32 else 1) < 0x3F00 := by decide

theorem witness_OamDmaCopiesThePage : (255 : Nat) < 256 ∧ (Space.palette ≠ .oam ∨ 256 ≤ 0) ∧ (Space.oam ≠ .oam ∨ 256 ≤ 256) := by
  decide

/-- Next states of operations outside the exceptions the statement names. -/
theorem witness_OamHasTwoWriters : (∃ t, exec .evHblank base = .next t) ∧ (∃ t, exec (.oamDma 3) base = .next t) ∧
    (∃ t, exec (.wrSpriteAddress 3) base = .next t) := ⟨⟨_, rfl⟩, ⟨_, rfl⟩, ⟨_, rfl⟩⟩

theorem witness_VramWriteStoresWhereResolved :
    resolve base.variant.mirroring 0x2400 = .nt 1 0 ∧ resolve base.variant.mirroring 0x3F10 = .palette 0 ∧
    resolve base.variant.mirroring 0x1FFF = .pattern 0x1FFF := by decide

/-- Each region at its ends, and the fold at its ends. -/
theorem witness_NametablesMirrorAt3000 :
    (0x4000 % 0x4000 < 0x2000 ∧ 0x5FFF % 0x4000 < 0x2000) ∧ (0x2000 ≤ 0x2000 % 0x4000 ∧ 0x3EFF % 0x4000 < 0x3F00) ∧
    (0x3F00 ≤ 0x3F00 % 0x4000 ∧ 0x3F00 ≤ 0x7FFF % 0x4000) ∧
    (0x2000 ≤ 0x2EFF ∧ 0x2EFF ≤ 0x2EFF) ∧ (0x2000 ≤ 0x2FFF ∧ 0x2FFF ≤ 0x2FFF) := by decide

/-- `base` on a scanline, its hblank event taken. -/
def late (line : Nat) : State := { base with scanline := line, dot := 256, hblankDone := true }

theorem witness_NmiEvent : { base with nmiArmed := true }.nmiArmed = true ∧ base.nmiArmed = false := by decide

/-- An inner line, the line before vblank's neighbours, and the wrap. -/
theorem witness_ScanlineEventAdvances :
    ∀ line ∈ [0, 239, 241, 259, 261], (late line).variant.Ok ∧ (late line).hblankDone = true ∧
      (late line).scanline + 1 ≠ (late line).variant.vblankFirstScanline ∧
      (late line).scanline + 2 ≠ (late line).variant.scanlinesPerFrame := by decide

theorem witness_VblankEntry :
    (late 240).variant.Ok ∧ (late 240).hblankDone = true ∧ (late 240).scanline + 1 = (late 240).variant.vblankFirstScanline ∧
    ({ late 240 with control0 := 0x80 }.control0.getLsbD 7 = true ∧ (late 240).nmiSuppress = false) ∧
    ¬ ((late 240).control0.getLsbD 7 = true ∧ (late 240).nmiSuppress = false) := by decide

theorem witness_PrerenderEntry :
    (late 260).variant.Ok ∧ (late 260).hblankDone = true ∧ (late 260).scanline + 2 = (late 260).variant.scanlinesPerFrame := by
  decide

theorem witness_BrokenContractIsRefused : (late 0).hblankDone = true ∧ base.hblankDone = false := by decide

theorem witness_HblankOffScreen :
    base.variant.Ok ∧ base.hblankDone = false ∧ 240 ≤ { base with scanline := 240 }.scanline := by decide

/-- The hypotheses of the statements about a rendered line: first and last row, each setting of the enables. -/
theorem witness_rendered_line :
    base.hblankDone = false ∧ { base with scanline := 239 }.scanline < 240 ∧
    (base.control1.getLsbD 3 = false ∧ base.control1.getLsbD 4 = false) ∧
    (s1.hblankDone = false ∧ s1.scanline < 240 ∧ (s1.control1.getLsbD 3 || s1.control1.getLsbD 4) = true) := by decide

/-- The two ranges of coarse_y in ScrollAfterARenderedLine, at their boundary. -/
theorem witness_ScrollAfterARenderedLine :
    (coarseY { base with refreshData := 0x03A0 }.refreshData).toNat < 30 ∧
    30 ≤ (coarseY { base with refreshData := 0x03C0 }.refreshData).toNat := by decide

/-- A cell of a memory that lists `f p` at every `p` from `n` addresses on. -/
theorem lookup_range' (f : Nat → Byte) (p n lo : Nat) (h1 : lo ≤ p) (h2 : p < lo + n) :
    Cells.lookup ((List.range' lo n).map fun q => (q, f q)) p = some (f p) := by
  induction n generalizing lo with
  | zero => omega
  | succ n ih =>
    rw [List.range'_succ, List.map_cons]
    by_cases h : p = lo
    · simp [Cells.lookup, h]
    · simpa [Cells.lookup, h] using ih (lo + 1) (by omega) (by omega)

/-- The closed pattern model holding 0xFF at every address, on a state that renders. -/
theorem witness_ClosedPattern :
    ClosedPattern { s1 with chr := (List.range' 0 8192).map fun p => (p, 0xFF) } (fun _ => 0xFF) :=
  ⟨rfl, fun p h => by rw [State.chrByte, lookup_range' (fun _ => 0xFF) p 8192 0 (Nat.zero_le _) (by simpa using h)]; rfl⟩

theorem witness_ColumnFetchesItsTile : 32 < 33 ∧ 0 < 33 := by decide

/-- A clipped and an unclipped background, at the boundary column. -/
theorem witness_FineScrollPlacesPixels :
    g1.bgEn = true ∧ (g1.bgL8 = true ∨ 8 ≤ 0) ∧ { g1 with control1 := 0x08 }.bgEn = true ∧
    ({ g1 with control1 := 0x08 }.bgL8 = true ∨ 8 ≤ 8) ∧ 255 < 256 := by decide

/-- A state whose one slot claims column 40, its sprite in front or behind, over a transparent or opaque pixel. -/
def claimed (attr : Byte) (under : Bool) : State := { base with
  control1 := 0x1E
  line := { LineBuffers.cleared with sprites := [⟨0, attr, 40, 0x80, 0⟩], bgOpaque := List.replicate 256 under } }

theorem witness_SpritePriority :
    (∀ attr ∈ [(0x01 : Byte), 0x21], ∀ under ∈ [false, true],
      (claimed attr under).claimant 40 = some ⟨0, attr, 40, 0x80, 0⟩) ∧
    (0x01 : Byte).getLsbD 5 = false ∧ (0x21 : Byte).getLsbD 5 = true ∧
    (claimed 0x21 false).line.bgOpaque.getD 40 false = false ∧ (claimed 0x21 true).line.bgOpaque.getD 40 false = true := by
  decide

/-- A disabled layer; a clipped one at its last column. -/
theorem witness_TransparentBackground :
    base.control1.getLsbD 3 = false ∧
    (g1.control1.getLsbD 3 = true ∧ { g1 with control1 := 0x08 }.control1.getLsbD 1 = false ∧ 7 < 8) := by decide

/-- The columns beside the slot's one opaque pixel have no claimant, its own column has. -/
theorem witness_FirstOpaqueSpriteClaims :
    (7 : Nat) < 8 ∧
    (claimed 0x01 false).claimant 39 = none ∧ (claimed 0x01 false).claimant 41 = none ∧
    ((claimed 0x01 false).claimant 40).isSome = true := by decide

/-- Both stretches of a line at their ends, and each clause with the timer at its boundary, 0 among them. -/
theorem witness_TicksCountDownToTheNmi :
    let s := { base with nmiArmed := true, nmiTimer := 12 }
    (base.dot + 255 < base.variant.hblankDot ∧ base.variant.hblankDot < base.variant.dotsPerLine) ∧
    ((late 0).variant.hblankDot ≤ (late 0).dot ∧ (late 0).dot + 84 < (late 0).variant.dotsPerLine) ∧
    base.nmiArmed = false ∧ (s.nmiArmed = true ∧ 11 < s.nmiTimer) ∧ (0 < 12 ∧ s.nmiTimer ≤ 12) ∧
    (0 < 1 ∧ { s with nmiTimer := 0 }.nmiTimer ≤ 1) := by decide

/-- T8: the armed NMI runs out on the tick that performs the event; at either event dot, in and out of contract. -/
theorem witness_TickPerformsTheEventDue :
    let s := { base with dot := 255, nmiArmed := true, nmiTimer := 1 }
    base.variant.hblankDot < base.variant.dotsPerLine ∧
    (s.dot + 1 = s.variant.hblankDot ∧ s.hblankDone = false ∧ { s with hblankDone := true }.hblankDone = true) ∧
    ({ late 240 with dot := 340 }.dot + 1 = (late 240).variant.dotsPerLine ∧ (late 240).hblankDone = true ∧
      { late 240 with hblankDone := false }.hblankDone = false) ∧
    { s with nmiTimer := 0 } = { s with nmiTimer := if s.nmiArmed then s.nmiTimer - 1 else s.nmiTimer } :=
  ⟨by decide, by decide, by decide, rfl⟩

/-- A legal configuration, the presets, and a configuration at the edge that R6 forbids. -/
theorem witness_DeviceStartIsLegal :
    Variant.ntsc.Ok ∧ Variant.pal.Ok ∧ Variant.palClone.Ok ∧ ¬ { Variant.ntsc with vblankFirstScanline := 240 }.Ok := by decide

/-- In vblank with an NMI about to fire, a TICK of one dot presented. -/
def armed : State := { base with
  control0 := 0x80, status := 0x80, scanline := 241, dot := 11, nmiArmed := true, nmiTimer := 1
  outputs := [.scanline 241, .vblank true], pending := [0x40000100] }

theorem armed_inv : Inv armed where
  variantOk := by decide
  position := ⟨by decide, by decide, by decide, by decide⟩
  interrupt := ⟨by decide, by decide, by decide, by decide, by decide, by decide, by decide, by decide⟩
  memories := reset_memoriesOk.congr rfl rfl rfl rfl rfl rfl
  line := cleared_lineOk

/-- A legal state that steps; TicksNeverBreakTheContract and NmiAtMostOncePerVblank apply to it too. -/
theorem witness_StepKeepsInv : Inv armed ∧ (∃ t, step armed = .next t) ∧
    nmisSinceVblank armed.outputs + armed.nmiArmed.toNat ≤ 1 := ⟨armed_inv, ⟨_, rfl⟩, by decide⟩

theorem witness_OnlyTheScanlineEventArms :
    after (exec .evScanline { late 240 with control0 := 0x80 }) (fun t => t.nmiArmed) = true ∧ (late 240).nmiArmed = false := by
  decide

/-- One next state for each clause. -/
theorem witness_ScanlineCounterMoves :
    (∃ t, exec .evScanline (late 261) = .next t) ∧ (∃ t, exec .reset (late 5) = .next t) ∧
    (∃ t, exec .evHblank base = .next t) ∧ (late 261).scanline < (late 261).variant.scanlinesPerFrame :=
  ⟨⟨_, rfl⟩, ⟨_, rfl⟩, ⟨_, rfl⟩, by decide⟩

theorem witness_TransientBuffersAreDead :
    (∃ t, exec .evHblank base = .next t) ∧ (∃ r, exec .evScanline base = .refused r) := ⟨⟨_, rfl⟩, ⟨_, rfl⟩⟩

theorem witness_ConfigurationIsFixed :
    ((∃ t, exec (.wrData 3) base = .next t) ∧ base.patternModel = .openModel) ∧
    ((∃ t, exec (.wrData 3) s1 = .next t) ∧ s1.patternModel = .closedModel ∧ s1.variant.chrWritable = false) ∧
    (∃ t, exec .rdData base = .next t) := ⟨⟨⟨_, rfl⟩, rfl⟩, ⟨⟨_, rfl⟩, rfl, rfl⟩, ⟨_, rfl⟩⟩

theorem witness_IdempotentOperations :
    Instr.reset ∈ [Instr.wrControl0 0, .wrControl1 0, .wrStatus 0, .wrSpriteAddress 0, .palWr 0 0, .reset] ∧
    Instr.palRd 5 ∈ [Instr.rdControl0, .rdControl1, .rdSpriteAddress, .rdScroll, .rdAddress, .rdSpriteData, .palRd 5] := by
  decide

/-- An external page whose 256 bytes are known. -/
theorem witness_IdempotentOperations_dma (n : Nat) (h : n < 256) :
    (Cells.lookup { base with ext := (List.range' 0x200 256).map fun a => (a, 0x5A) }.ext
      ((0x02 : Byte).toNat * 256 + n)).isSome = true := by
  have e : (0x02 : Byte).toNat * 256 + n = 0x200 + n := rfl
  rw [e, lookup_range' (fun _ => 0x5A) (0x200 + n) 256 0x200 (by omega) (by omega)]
  rfl

/-- A variant of each strategy. -/
theorem witness_ColourTableLaws :
    Variant.ntsc.paletteStrategy = .generated ∧ { Variant.ntsc with paletteStrategy := .rgbRom }.paletteStrategy = .rgbRom := by
  decide

end Sys2Proof.Tests
end

section
/-! Statements about the palette fold, the palette cells and the writes that go through the resolver
(O19, O20, O24), with the frame rules of the two byte stores they rest on. -/

namespace Sys2Proof.Machine

/-! ### What a store leaves alone -/

/-- The frame of `writeByte`: no byte but the addressed one. -/
theorem State.writeByte_bytesKeptBut (s : State) (sp : Space) (a : Nat) (v : Byte) :
    BytesKeptBut sp a s (s.writeByte sp a v) := fun _ _ h => s.readByte_writeByte_ne v h

/-- A pattern write is the collaborator's: the block's own byte memories do not hold it (R82). -/
theorem chrWrite_bytesKept (p : Nat) (v : Byte) (s : State) : BytesKept s (chrWrite p v s) :=
  State.readByte_congr rfl rfl rfl

/-! ### The palette -/

/-- Outside the four aliases an index below 32 is its own cell. -/
theorem palMirror_eq_self {i : Nat} (hlt : i < 32) (h10 : i ≠ 0x10) (h14 : i ≠ 0x14) (h18 : i ≠ 0x18)
    (h1C : i ≠ 0x1C) : palMirror i = i := by
  have hmod : i % 32 = i := Nat.mod_eq_of_lt hlt
  have hno : ¬ (16 ≤ i % 32 ∧ i % 4 = 0) := by omega
  rw [palMirror, if_neg hno, hmod]

/-- PAL_WR is `PalWrite` (R161). -/
theorem exec_palWr (i : Nat) (d : Byte) (s : State) : exec (.palWr i d) s = .next (s.palWrite i d) := rfl

/-- `PalRead` after `PalWrite`: two indices share a byte exactly when they mirror to one cell. -/
theorem State.palRead_palWrite (s : State) (i j : Nat) (d : Byte) :
    (s.palWrite i d).palRead j = if palMirror j = palMirror i then d else s.palRead j := by
  unfold State.palRead State.palWrite
  split
  case isTrue h => rw [h, State.readByte_writeByte_same]
  case isFalse h => rw [s.readByte_writeByte_ne d (.inr h)]

/-! ### `VramWrite`, by what the address resolves to -/

theorem vramWrite_of_pattern {a p : Nat} {s : State} (v : Byte) (h : resolve s.variant.mirroring a = .pattern p) :
    vramWrite a v s = chrWrite p v s := by simp only [vramWrite, h]

theorem vramWrite_of_nt {a b o : Nat} {s : State} (v : Byte) (h : resolve s.variant.mirroring a = .nt b o) :
    vramWrite a v s = s.writeByte .nametable (ntKey b o) v := by simp only [vramWrite, h]

theorem vramWrite_of_palette {a i : Nat} {s : State} (v : Byte) (h : resolve s.variant.mirroring a = .palette i) :
    vramWrite a v s = s.writeByte .palette i v := by simp only [vramWrite, h]

/-! ### The statements -/

/-- Settles O19: every index beside the aliases is its own cell (`palMirror_eq_self`), and the fold reads an index
modulo 32 only (`palMirror_mod`); the count is over the 32 indices. -/
theorem paletteIndexMirroring : Obligations.PaletteIndexMirroring :=
  ⟨rfl, rfl, rfl, rfl, fun i => (palMirror_mod i).symm, fun _ => palMirror_eq_self, by decide⟩

/-- Settles O20: PAL_WR is one store at the mirrored index, read back by `State.palRead_palWrite`. -/
theorem paletteWriteReadsBack : Obligations.PaletteWriteReadsBack := fun s i j d =>
  ⟨s.palWrite i d, exec_palWr i d s, s.readByte_writeByte_same .palette (palMirror i) d,
    s.writeByte_bytesKeptBut .palette (palMirror i) d, s.palRead_palWrite i j d, rfl⟩

/-- Settles O24: in each of the resolver's three regions `VramWrite` is one store of the block, or the
collaborator's `ChrWrite`, and the frame is that store's. -/
theorem vramWriteStoresWhereResolved : Obligations.VramWriteStoresWhereResolved := by
  intro a v s
  refine ⟨fun b o h => ?_, fun i h => ?_, fun p h => ?_⟩
  · rw [vramWrite_of_nt v h]
    exact ⟨s.readByte_writeByte_same .nametable (ntKey b o) v, s.writeByte_bytesKeptBut .nametable (ntKey b o) v⟩
  · rw [vramWrite_of_palette v h]
    exact ⟨s.readByte_writeByte_same .palette i v, s.writeByte_bytesKeptBut .palette i v⟩
  · rw [vramWrite_of_pattern v h]
    exact ⟨rfl, chrWrite_bytesKept p v s⟩

end Sys2Proof.Machine
end

section
/-! Statements about the transaction word (O1 to O5): the decoder on each class of words, and the opcode map read as
conditions on the fields of a word. -/

namespace Sys2Proof

/-! ### The decoder, class by class (R112 to R117) -/

theorem decode_port (r : Bool) (a : BitVec 16) (d : Byte) : decode (mkWord 0 r 0 a d) =
    .ok (if r then decodePortRead (portOffset a) else decodePortWrite (portOffset a) d) := by simp [decode]

theorem decode_palette (r : Bool) (a : BitVec 16) (d : Byte) : decode (mkWord 1 r 0 a d) =
    .ok (if r then .palRd (paletteIndex a) else .palWr (paletteIndex a) d) := by simp [decode]

theorem decode_dma (a : BitVec 16) (d : Byte) : decode (mkWord 2 false 0 a d) = .ok (.oamDma (dmaPage a)) := by
  simp [decode]

theorem decode_event (a : BitVec 16) (d : Byte) : decode (mkWord 3 false 0 a d) = decodeEvent a.toNat := by
  simp [decode]

theorem decode_tick (a : BitVec 16) (d : Byte) : decode (mkWord 4 false 0 a d) = .ok (.tick a.toNat) := by
  simp [decode]

theorem decode_reset (a : BitVec 16) (d : Byte) : decode (mkWord 5 false 0 a d) = .ok .reset := by simp [decode]

/-! ### Operands come back from their fields (R118) -/

theorem paletteIndex_ofNat {i : Nat} (h : i < 32) : paletteIndex (BitVec.ofNat 16 i) = i := by
  simp only [paletteIndex, BitVec.toNat_ofNat]; omega

theorem dmaPage_setWidth (page : Byte) : dmaPage (page.setWidth 16) = page := by
  simp [dmaPage]

/-- Settles O1: the decoder of the operation's class reads back its operands. -/
theorem decodeEncodeRoundTrip : Obligations.DecodeEncodeRoundTrip := by
  intro i hw
  cases i
  case palWr index d =>
    have h : index < 32 := by simpa [Instr.wellFormed] using hw
    rw [encode, decode_palette, paletteIndex_ofNat h]; rfl
  case palRd index =>
    have h : index < 32 := by simpa [Instr.wellFormed] using hw
    rw [encode, decode_palette, paletteIndex_ofNat h]; rfl
  case oamDma page => rw [encode, decode_dma, dmaPage_setWidth]
  case tick count =>
    have h : count < 2 ^ 16 := by simpa [Instr.wellFormed] using hw
    rw [encode, decode_tick, BitVec.toNat_ofNat, Nat.mod_eq_of_lt h]
  case reset => rw [encode, decode_reset]
  case evHblank | evNmi | evScanline => rw [encode, decode_event]; rfl
  all_goals rw [encode, decode_port]; rfl

/-! ### The rows of the opcode map as conditions on the fields (R119) -/

/-- A row of class PORT. -/
def portRow (mnemonic : String) (rnw : Bool) (port : BitVec 16) : OpcodeRow :=
  ⟨mnemonic, mkWord 0 rnw 0 port 0, 0xFF000700⟩

/-- A row that reads CLASS, RNW and ZERO only. -/
def classRow (mnemonic : String) (cls : BitVec 4) (rnw : Bool) : OpcodeRow := ⟨mnemonic, mkWord cls rnw 0 0 0, 0xFF000000⟩

/-- A row of class EVENT, which reads the whole of ADDR. -/
def eventRow (mnemonic : String) (code : BitVec 16) : OpcodeRow := ⟨mnemonic, mkWord 3 false 0 code 0, 0xFFFFFF00⟩

theorem opcodeMap_eq : opcodeMap =
    [portRow "WR_CONTROL0" false 0, portRow "WR_CONTROL1" false 1, portRow "WR_STATUS" false 2,
     portRow "WR_SPRITE_ADDRESS" false 3, portRow "WR_SPRITE_DATA" false 4, portRow "WR_SCROLL" false 5,
     portRow "WR_ADDRESS" false 6, portRow "WR_DATA" false 7, portRow "RD_CONTROL0" true 0,
     portRow "RD_CONTROL1" true 1, portRow "RD_STATUS" true 2, portRow "RD_SPRITE_ADDRESS" true 3,
     portRow "RD_SPRITE_DATA" true 4, portRow "RD_SCROLL" true 5, portRow "RD_ADDRESS" true 6,
     portRow "RD_DATA" true 7, classRow "PAL_WR" 1 false, classRow "PAL_RD" 1 true, classRow "OAM_DMA" 2 false,
     eventRow "EV_HBLANK" 0, eventRow "EV_NMI" 1, eventRow "EV_SCANLINE" 2, classRow "TICK" 4 false,
     classRow "RESET" 5 false] := rfl

/-- A word is its five fields (R110). -/
theorem mkWord_fields (w : Word) : mkWord (wordClass w) (wordRnw w) (wordZero w) (wordAddr w) (wordData w) = w := by
  apply BitVec.eq_of_getLsbD_eq
  intro i hi
  rw [getLsbD_mkWord]
  simp only [wordClass, wordRnw, wordZero, wordAddr, wordData, BitVec.getLsbD_extractLsb']
  split
  · next h => simp [h]
  split
  · next h1 h2 => simp only [show 8 + (i - 8) = i by omega, show i - 8 < 16 by omega, decide_true, Bool.true_and]
  split
  · next h1 h2 h3 => simp only [show 24 + (i - 24) = i by omega, show i - 24 < 3 by omega, decide_true, Bool.true_and]
  split
  · next h1 h2 h3 h4 => simp only [show i = 27 by omega, decide_true, Bool.true_and]
  · next h1 h2 h3 h4 => simp only [show 28 + (i - 28) = i by omega, show i - 28 < 4 by omega, decide_true, Bool.true_and]

theorem mkWord_inj {c c' : BitVec 4} {r r' : Bool} {z z' : BitVec 3} {a a' : BitVec 16} {d d' : Byte} :
    mkWord c r z a d = mkWord c' r' z' a' d' ↔ c = c' ∧ r = r' ∧ z = z' ∧ a = a' ∧ d = d' := by
  refine ⟨fun h => ⟨?_, ?_, ?_, ?_, ?_⟩, by rintro ⟨rfl, rfl, rfl, rfl, rfl⟩; rfl⟩
  · simpa using congrArg wordClass h
  · simpa using congrArg wordRnw h
  · simpa using congrArg wordZero h
  · simpa using congrArg wordAddr h
  · simpa using congrArg wordData h

/-- What a row asks of the fields of a word: its class and RNW, ZERO = 0, and of ADDR the port offset in class PORT,
all of it in class EVENT, nothing elsewhere. -/
def OpcodeRow.selects (row : OpcodeRow) (c : BitVec 4) (r : Bool) (z : BitVec 3) (a : BitVec 16) : Bool :=
  c == wordClass row.pattern && r == wordRnw row.pattern && z == 0 &&
    (if c = 0 then a &&& 7 == wordAddr row.pattern else if c = 3 then a == wordAddr row.pattern else true)

section Matching

variable (n : String) (c : BitVec 4) (r : Bool) (z : BitVec 3) (a : BitVec 16) (d : Byte)

theorem portRow_matchesWord (r' : Bool) (p : BitVec 16) :
    (portRow n r' p).matchesWord (mkWord c r z a d) = (portRow n r' p).selects c r z a := by
  rw [Bool.eq_iff_iff, OpcodeRow.matchesWord, portRow, mkWord_and_portMask, beq_iff_eq, mkWord_inj]
  by_cases h : c = 0#4
  · simp [OpcodeRow.selects, h, and_assoc]
  · simp [OpcodeRow.selects, h]

theorem classRow_matchesWord (c' : BitVec 4) (r' : Bool) (h0 : c' ≠ 0#4) (h3 : c' ≠ 3#4) :
    (classRow n c' r').matchesWord (mkWord c r z a d) = (classRow n c' r').selects c r z a := by
  rw [Bool.eq_iff_iff, OpcodeRow.matchesWord, classRow, mkWord_and_classMask, beq_iff_eq, mkWord_inj]
  by_cases h : c = c'
  · subst h; simp [OpcodeRow.selects, h0, h3]
  · simp [OpcodeRow.selects, h]

theorem eventRow_matchesWord (code : BitVec 16) :
    (eventRow n code).matchesWord (mkWord c r z a d) = (eventRow n code).selects c r z a := by
  rw [Bool.eq_iff_iff, OpcodeRow.matchesWord, eventRow, mkWord_and_eventMask, beq_iff_eq, mkWord_inj]
  by_cases h : c = 3#4
  · subst h; simp [OpcodeRow.selects, and_assoc]
  · simp [OpcodeRow.selects, h]

end Matching

theorem opcodeMap_selects (c : BitVec 4) (r : Bool) (z : BitVec 3) (a : BitVec 16) (d : Byte) :
    ∀ row ∈ opcodeMap, row.matchesWord (mkWord c r z a d) = row.selects c r z a := by
  simp +decide [opcodeMap_eq, portRow_matchesWord, classRow_matchesWord, eventRow_matchesWord]

/-- The rows that match a word, by its fields. -/
theorem filter_opcodeMap (c : BitVec 4) (r : Bool) (z : BitVec 3) (a : BitVec 16) (d : Byte) :
    opcodeMap.filter (·.matchesWord (mkWord c r z a d)) = opcodeMap.filter (·.selects c r z a) :=
  List.filter_congr (opcodeMap_selects c r z a d)

/-- Every row spells a class below 6, ZERO = 0, a read in class PORT or PAL only, and an event code below 3. -/
theorem opcodeMap_fields : ∀ row ∈ opcodeMap, (wordClass row.pattern).toNat < 6 ∧ wordZero row.pattern = 0 ∧
    (wordRnw row.pattern = true → (wordClass row.pattern).toNat < 2) ∧
    (wordClass row.pattern = 3 → (wordAddr row.pattern).toNat < 3) := by decide

/-- The mnemonics of the rows that match the fields. -/
def selectedMnemonics (c : BitVec 4) (r : Bool) (z : BitVec 3) (a : BitVec 16) : List String :=
  (opcodeMap.filter (·.selects c r z a)).map (·.mnemonic)

theorem and_seven (a : BitVec 16) : a &&& 7 = BitVec.ofNat 16 (portOffset a) := by
  apply BitVec.eq_of_toNat_eq
  have h : a.toNat &&& 7 = a.toNat % 8 := Nat.and_two_pow_sub_one_eq_mod a.toNat 3
  rw [BitVec.toNat_and, show (7 : BitVec 16).toNat = 7 from rfl, h, BitVec.toNat_ofNat, portOffset]
  omega

theorem selectedMnemonics_port (r : Bool) (a : BitVec 16) (d : Byte) : selectedMnemonics 0 r 0 a =
    [(if r then decodePortRead (portOffset a) else decodePortWrite (portOffset a) d).mnemonic] := by
  have hlt : portOffset a < 8 := Nat.mod_lt _ (by decide)
  simp only [selectedMnemonics, OpcodeRow.selects, and_seven]
  generalize portOffset a = q at hlt
  interval_cases q <;> cases r <;> rfl

/-- Of a class without ports or events the row is found by class and RNW alone. -/
theorem selectedMnemonics_class (c : BitVec 4) (r : Bool) (a : BitVec 16) (h0 : c ≠ 0) (h3 : c ≠ 3) :
    selectedMnemonics c r 0 a = selectedMnemonics c r 0 0 := by
  simp only [selectedMnemonics, OpcodeRow.selects, if_neg h0, if_neg h3]

/-- The classes that are not reserved (R111). -/
theorem class_cases {c : BitVec 4} (h : c.toNat < 6) : c = 0 ∨ c = 1 ∨ c = 2 ∨ c = 3 ∨ c = 4 ∨ c = 5 := by
  revert c; decide

theorem decodeEvent_ok {a : BitVec 16} {i : Instr} (h : decodeEvent a.toNat = .ok i) :
    (a = 0 ∧ i = .evHblank) ∨ (a = 1 ∧ i = .evNmi) ∨ (a = 2 ∧ i = .evScanline) := by
  unfold decodeEvent at h
  split at h
  · next ha => cases h; exact .inl ⟨BitVec.eq_of_toNat_eq ha, rfl⟩
  · next ha => cases h; exact .inr (.inl ⟨BitVec.eq_of_toNat_eq ha, rfl⟩)
  · next ha => cases h; exact .inr (.inr ⟨BitVec.eq_of_toNat_eq ha, rfl⟩)
  · cases h

/-- Where the decoder reads an operation, the fields select the one row of its mnemonic. -/
theorem selectedMnemonics_of_decode {c : BitVec 4} {r : Bool} {z : BitVec 3} {a : BitVec 16} {d : Byte} {i : Instr} 
    (h : decode (mkWord c r z a d) = .ok i) : selectedMnemonics c r z a = [i.mnemonic] := by
  simp only [decode, wordClass_mkWord, wordRnw_mkWord, wordZero_mkWord, wordAddr_mkWord, wordData_mkWord] at h
  split at h
  · cases h
  split at h
  · cases h
  split at h
  · cases h
  next hc hz hr =>
  obtain rfl : z = 0 := not_not.1 hz
  have hlt : c.toNat < 6 := by omega
  have hr' : 2 ≤ c.toNat → r = false := fun h2 => Bool.eq_false_iff.2 fun h1 => hr ⟨h1, h2⟩
  obtain rfl | rfl | rfl | rfl | rfl | rfl := class_cases hlt
  · cases h; exact selectedMnemonics_port r a d
  · cases h
    rw [selectedMnemonics_class _ _ _ (by decide) (by decide)]
    cases r <;> rfl
  · cases h
    rw [hr' (by decide), selectedMnemonics_class _ _ _ (by decide) (by decide)]
    rfl
  · rw [hr' (by decide)]
    obtain ⟨rfl, rfl⟩ | ⟨rfl, rfl⟩ | ⟨rfl, rfl⟩ := decodeEvent_ok h <;> rfl
  · cases h
    rw [hr' (by decide), selectedMnemonics_class _ _ _ (by decide) (by decide)]
    rfl
  · cases h
    rw [hr' (by decide), selectedMnemonics_class _ _ _ (by decide) (by decide)]
    rfl

/-- A word whose fields a row selects is read by the decoder. -/
theorem decode_of_selects {row : OpcodeRow} (hrow : row ∈ opcodeMap) {c : BitVec 4} {r : Bool} {z : BitVec 3}
    {a : BitVec 16} (d : Byte) (h : row.selects c r z a = true) : ∃ i, decode (mkWord c r z a d) = .ok i := by
  obtain ⟨hc, -, hr, ha⟩ := opcodeMap_fields row hrow
  simp only [OpcodeRow.selects, Bool.and_eq_true, beq_iff_eq] at h
  obtain ⟨⟨⟨ec, er⟩, rfl⟩, ea⟩ := h
  rw [← ec, ← er] at hr
  rw [← ec] at hc ha
  have hr' : 2 ≤ c.toNat → r = false := fun h2 => Bool.eq_false_iff.2 fun h1 => absurd (hr h1) (by omega)
  obtain rfl | rfl | rfl | rfl | rfl | rfl := class_cases hc
  · exact ⟨_, decode_port r a d⟩
  · exact ⟨_, decode_palette r a d⟩
  · rw [hr' (by decide)]; exact ⟨_, decode_dma a d⟩
  · have ha' : a.toNat < 3 := by
      have e : a = wordAddr row.pattern := by simpa using ea
      rw [e]; exact ha rfl
    rw [hr' (by decide), decode_event]
    generalize a.toNat = n at ha'
    interval_cases n <;> exact ⟨_, rfl⟩
  · rw [hr' (by decide)]; exact ⟨_, decode_tick a d⟩
  · rw [hr' (by decide)]; exact ⟨_, decode_reset a d⟩

/-- Settles O2: the rows read the same fields the decoder does (`filter_opcodeMap`), so a decoded word selects the row
of its mnemonic, and a word that any row selects is decoded. -/
theorem opcodeMapAgreesWithDecoder : Obligations.OpcodeMapAgreesWithDecoder := by
  intro w
  rw [← mkWord_fields w, filter_opcodeMap]
  refine ⟨fun i h => selectedMnemonics_of_decode h, fun e h => ?_⟩
  rw [List.filter_eq_nil_iff]
  intro row hrow hsel
  obtain ⟨i, hi⟩ := decode_of_selects hrow (wordData w) hsel
  rw [h] at hi
  cases hi

/-- Settles O3: each word is evaluated by the decoder. -/
theorem decoderReadsWrittenWords : Obligations.DecoderReadsWrittenWords :=
  ⟨rfl, rfl, rfl, rfl, rfl, rfl, rfl, rfl, rfl, rfl, rfl, rfl⟩

end Sys2Proof

namespace Sys2Proof.Machine

/-! ### A step, by what the decoder says of the word presented (R93, R124) -/

theorem step_of_decode {s : State} {w : Word} {rest : List Word} {i : Instr} (hp : s.pending = w :: rest)
    (hd : decode w = .ok i) : step s = exec i { s with pending := rest } := by
  simp only [step, hp, List.head?_cons, hd, State.takeNext, List.tail_cons]

theorem step_of_error {s : State} {w : Word} {rest : List Word} {e : DecodeError} (hp : s.pending = w :: rest)
    (hd : decode w = .error e) : step s = .refused (refusalOf e) := by
  simp only [step, hp, List.head?_cons, hd]

/-- A word of 32 bits put as a number is that word. -/
theorem wordOfBits_toNat (w : Word) : wordOfBits 32 w.toNat = w := by
  rw [wordOfBits, Nat.mod_eq_of_lt w.isLt, BitVec.ofNat_toNat, BitVec.setWidth_eq]

/-- Settles O4: `step` takes the head word (`step_of_decode`), which `withFetchWord` puts there. -/
theorem stepPerformsThePresentedOperation : Obligations.StepPerformsThePresentedOperation := by
  refine ⟨fun s w rest i hp hd => step_of_decode hp hd, fun s w i hd => ?_⟩
  rw [State.withFetchWord, wordOfBits_toNat]
  exact step_of_decode (s := s.present w) rfl hd

theorem decodeEvent_of_ge {n : Nat} (h : 3 ≤ n) : decodeEvent n = .error .badEventCode := by
  obtain ⟨m, rfl⟩ := Nat.exists_eq_add_of_le' h
  rfl

/-- Settles O5: the first failing check of the decoder names the reason. -/
theorem unspelledWordsAreRefused : Obligations.UnspelledWordsAreRefused := by
  intro s w rest hp
  have hclass : (wordClass w).toNat < 6 → ¬ 6 ≤ (wordClass w).toNat := by omega
  refine ⟨fun hc => step_of_error hp (e := .reservedClass) ?_, fun hc hz => step_of_error hp (e := .reservedField) ?_,
    fun h2 hc hr => step_of_error hp (e := .reservedField) ?_, fun hc hz hr ha => step_of_error hp (e := .badEventCode) ?_⟩
  · rw [decode, if_pos hc]
  · rw [decode, if_neg (hclass hc), if_pos hz]
  · rw [decode, if_neg (hclass hc), if_pos (And.intro hr h2), ite_self]
  · have h3 : wordClass w = 3 := BitVec.eq_of_toNat_eq hc
    rw [← mkWord_fields w, h3, hr, hz, decode_event, decodeEvent_of_ge ha]

end Sys2Proof.Machine
end

section
/-! The ports, field by field: what each access with a case of its own leaves, as one state. -/

namespace Sys2Proof.Machine

/-- WR_CONTROL0 (R132). -/
theorem exec_wrControl0 (d : Byte) (s : State) : exec (.wrControl0 d) s = .next { s with
    control0 := d, dataLatch := d, refreshLatch := setNtField s.refreshLatch (ntBaseOf d)
    nmiArmed := d.getLsbD 7 && s.nmiArmed, nmiTimer := if d.getLsbD 7 then s.nmiTimer else 0 } := by
  simp only [exec, execWrControl0, Layout.nmiEnBit]
  cases d.getLsbD 7 <;> rfl

/-- WR_SPRITE_DATA (R136). -/
theorem exec_wrSpriteData (d : Byte) (s : State) : exec (.wrSpriteData d) s = .next { s with
    spriteData := d, dataLatch := d
    spriteAddress := if s.oamWriteAllowed then s.spriteAddress + 1 else s.spriteAddress
    oam := if s.oamWriteAllowed then Cells.store s.oam s.spriteAddress.toNat d else s.oam } := by
  simp only [exec, execWrSpriteData]
  cases s.oamWriteAllowed <;> rfl

/-- WR_SCROLL (R137). -/
theorem exec_wrScroll (d : Byte) (s : State) : exec (.wrScroll d) s = .next { s with
    scroll := d, dataLatch := d, toggle := !s.toggle, xFine := if s.toggle then s.xFine else bits d 0 3
    refreshLatch := if s.toggle then setFineY (setCoarseY s.refreshLatch (bits d 3 5)) (bits d 0 3)
      else setCoarseX s.refreshLatch (bits d 3 5) } := by
  simp only [exec, execWrScroll]
  cases s.toggle <;> rfl

/-- WR_ADDRESS (R138). -/
theorem exec_wrAddress (d : Byte) (s : State) : exec (.wrAddress d) s = .next { s with
    address := d, dataLatch := d, toggle := !s.toggle
    refreshLatch := if s.toggle then latchLow s.refreshLatch d else latchHigh s.refreshLatch d
    refreshData := if s.toggle then latchLow s.refreshLatch d else s.refreshData } := by
  simp only [exec, execWrAddress]
  cases s.toggle <;> rfl

/-- WR_DATA (R139): the VRAM write, the auto-increment, the slot and the port latch. -/
theorem exec_wrData (d : Byte) (s : State) : exec (.wrData d) s = .next { s with
    data := d, dataLatch := d, refreshData := s.refreshData + BitVec.ofNat 15 s.inc
    ntRam := (vramWrite s.dataAddress d s).ntRam, paletteRam := (vramWrite s.dataAddress d s).paletteRam
    chr := (vramWrite s.dataAddress d s).chr, patternCalls := (vramWrite s.dataAddress d s).patternCalls } := by
  simp only [exec, execWrData]
  rw [vramWrite_only]
  rfl

/-- RD_STATUS (R142, R148). -/
theorem exec_rdStatus (s : State) : exec .rdStatus s = .next { s with
    status := setFlag s.status 7 false, toggle := false, dataLatch := s.statusValue, reads := s.reads ++ [s.statusValue]
    nmiArmed := !inRaceWindow s.variant s.scanline s.dot && s.nmiArmed
    nmiTimer := if inRaceWindow s.variant s.scanline s.dot then 0 else s.nmiTimer
    nmiSuppress := inRaceWindow s.variant s.scanline s.dot || s.nmiSuppress } := by
  simp only [exec, execRdStatus]
  cases inRaceWindow s.variant s.scanline s.dot <;> rfl

/-- RD_DATA (R147): the prefetch, the auto-increment, the returned byte. -/
theorem exec_rdData (s : State) : exec .rdData s = .next { s with
    bufferedData := s.prefetch.1, refreshData := s.refreshData + BitVec.ofNat 15 s.inc
    dataLatch := s.dataReadValue, reads := s.reads ++ [s.dataReadValue]
    patternCalls := s.prefetch.2.patternCalls, draws := s.prefetch.2.draws } := by
  have e := prefetch_fetchOnly s
  unfold FetchOnly at e
  simp only [exec, execRdData]
  rw [e]
  rfl

/-- OAM_DMA (R162). -/
theorem exec_oamDma (page : Byte) (s : State) : exec (.oamDma page) s = .next { s with
    oam := (dmaCopy page 256 s).oam, draws := s.draws + 256 } := by
  simp only [exec, execOamDma]
  rw [dmaCopy_eq]

/-- What the race window says of the position (R148). -/
theorem inRaceWindow_iff (v : Variant) (s d : Nat) : inRaceWindow v s d = true ↔
    (s = v.vblankFirstScanline ∧ d ≤ v.nmiRaceWindow) ∨
    (s + 1 = v.vblankFirstScanline ∧ v.dotsPerLine ≤ d + v.nmiRaceWindow) := by
  simp [inRaceWindow]

/-- What the write limitation says of the scanline (R149). -/
theorem oamWriteAllowed_iff (s : State) :
    s.oamWriteAllowed = true ↔ s.variant.spriteWriteLimit = false ∨ 239 < s.scanline := by
  simp [State.oamWriteAllowed, Nat.lt_iff_add_one_le]

end Sys2Proof.Machine
end

section
/-! Whole-machine rules (O6, O23, O54 to O56, O58): what an operation that answers a next state can have done, and what
follows from it for the configuration, OAM, the scanline counter and the NMI. -/

namespace Sys2Proof.Machine

/-! ### The operations by kind -/

/-- An operation is an access of the bus master, an event, a TICK or RESET. -/
theorem instr_kinds (i : Instr) : isAccess i = true ∨ i = .evHblank ∨ i = .evNmi ∨ i = .evScanline ∨ (∃ n, i = .tick n) ∨
    i = .reset := by
  cases i
  case evHblank => exact .inr (.inl rfl)
  case evNmi => exact .inr (.inr (.inl rfl))
  case evScanline => exact .inr (.inr (.inr (.inl rfl)))
  case tick n => exact .inr (.inr (.inr (.inr (.inl ⟨n, rfl⟩))))
  case reset => exact .inr (.inr (.inr (.inr (.inr rfl))))
  all_goals exact .inl rfl

/-- Everything an operation can do when it answers a next state. -/
theorem exec_next {i : Instr} {s t : State} (h : exec i s = .next t) :
    isAccess i = true ∨
    (i = .evHblank ∧ s.hblankDone = false ∧ t = hblankEffect s) ∨
    (i = .evNmi ∧ t = nmiEvent s) ∨
    (i = .evScanline ∧ s.hblankDone = true ∧ t = scanlineEffect s) ∨
    (∃ n, i = .tick n ∧ ticks n s = .next t) ∨
    (i = .reset ∧ t = performReset s) := by
  obtain hi | rfl | rfl | rfl | ⟨n, rfl⟩ | rfl := instr_kinds i
  · exact .inl hi
  · exact .inr (.inl ⟨rfl, hblankEvent_next h⟩)
  · exact .inr (.inr (.inl ⟨rfl, (Host.Outcome.next.inj h).symm⟩))
  · exact .inr (.inr (.inr (.inl ⟨rfl, scanlineEvent_next h⟩)))
  · exact .inr (.inr (.inr (.inr (.inl ⟨n, rfl, h⟩))))
  · exact .inr (.inr (.inr (.inr (.inr ⟨rfl, (Host.Outcome.next.inj h).symm⟩))))

/-- An operation that is neither an access nor RESET changes what the events can. -/
theorem exec_eventOnly {i : Instr} {s t : State} (hi : isAccess i = false) (hr : i ≠ .reset) (h : exec i s = .next t) :
    EventOnly s t := by
  obtain ha | ⟨-, -, rfl⟩ | ⟨-, rfl⟩ | ⟨-, -, rfl⟩ | ⟨n, -, hn⟩ | ⟨rfl, -⟩ := exec_next h
  · rw [hi] at ha; cases ha
  · exact hblankEffect_eventOnly s
  · exact nmiEvent_eventOnly s
  · exact scanlineEffect_eventOnly s
  · exact ticks_eventOnly hn
  · exact absurd rfl hr

/-! ### Refusals (R183, R280) -/

/-- The outcome is a next state or a refusal by the event contract. -/
def ContractOutcome (r : Result State Fault Refusal) : Prop :=
  (∃ t, r = .next t) ∨ r = .refused .hblankTwice ∨ r = .refused .scanlineWithoutHblank

theorem ContractOutcome.andThen {r : Result State Fault Refusal} {f : State → Result State Fault Refusal}
    (hr : ContractOutcome r) (hf : ∀ t, ContractOutcome (f t)) : ContractOutcome (andThen r f) := by
  obtain ⟨t, rfl⟩ | rfl | rfl := hr
  · exact hf t
  · exact .inr (.inl rfl)
  · exact .inr (.inr rfl)

theorem hblankEvent_outcome (s : State) : ContractOutcome (hblankEvent s) := by
  unfold hblankEvent
  split
  · exact .inr (.inl rfl)
  · exact .inl ⟨_, rfl⟩

theorem scanlineEvent_outcome (s : State) : ContractOutcome (scanlineEvent s) := by
  unfold scanlineEvent
  split
  · exact .inl ⟨_, rfl⟩
  · exact .inr (.inr rfl)

theorem advanceDot_outcome (s : State) : ContractOutcome (advanceDot s) := by
  unfold advanceDot
  split
  · exact scanlineEvent_outcome s
  split
  · exact hblankEvent_outcome s
  · exact .inl ⟨_, rfl⟩

theorem ticks_outcome (n : Nat) (s : State) : ContractOutcome (ticks n s) := by
  induction n generalizing s with
  | zero => exact .inl ⟨s, rfl⟩
  | succ n ih => exact ((advanceDot_outcome _).andThen fun _ => .inl ⟨_, rfl⟩).andThen ih

/-- An access of the bus master always completes. -/
theorem exec_access_next {i : Instr} (s : State) (hi : isAccess i = true) : ∃ t, exec i s = .next t := by
  cases i
  case evHblank | evNmi | evScanline | tick | reset => cases hi
  all_goals exact ⟨_, rfl⟩

theorem exec_outcome (i : Instr) (s : State) : ContractOutcome (exec i s) := by
  obtain hi | rfl | rfl | rfl | ⟨n, rfl⟩ | rfl := instr_kinds i
  · exact .inl (exec_access_next s hi)
  · exact hblankEvent_outcome s
  · exact .inl ⟨_, rfl⟩
  · exact scanlineEvent_outcome s
  · exact ticks_outcome n s
  · exact .inl ⟨_, rfl⟩

/-- Settles O6: every outcome is a next state or a refusal by the contract (`exec_outcome`), and each event checks its
own half of the contract. -/
theorem operationsNeverFault : Obligations.OperationsNeverFault := by
  intro i s
  have ho := exec_outcome i s
  refine ⟨fun f h => ?_, fun r h => ?_⟩
  · rw [h] at ho
    obtain ⟨t, e⟩ | e | e := ho <;> cases e
  · have hr : r = .hblankTwice ∨ r = .scanlineWithoutHblank := by
      rw [h] at ho
      obtain ⟨t, e⟩ | e | e := ho
      · cases e
      · cases e; exact .inl rfl
      · cases e; exact .inr rfl
    obtain hi | rfl | rfl | rfl | ⟨n, rfl⟩ | rfl := instr_kinds i
    · obtain ⟨t, e⟩ := exec_access_next s hi
      rw [e] at h; cases h
    · simp only [exec, execEvHblank, hblankEvent] at h
      split at h <;> cases h
      exact .inl ⟨rfl, rfl⟩
    · cases h
    · simp only [exec, execEvScanline, scanlineEvent] at h
      split at h <;> cases h
      exact .inr (.inl ⟨rfl, rfl⟩)
    · exact .inr (.inr ⟨⟨n, rfl⟩, hr⟩)
    · cases h

/-! ### What is particular to one or two accesses -/

/-- The pattern bytes, OAM and its cursor are each changed by the accesses named only (R82, R163). -/
theorem exec_access_stores {i : Instr} {s t : State} (hi : isAccess i = true) (h : exec i s = .next t) :
    ((∀ d, i ≠ .wrData d) → t.chr = s.chr) ∧
    ((∀ d, i ≠ .wrSpriteData d) → (∀ p, i ≠ .oamDma p) → t.oam = s.oam) ∧
    ((∀ d, i ≠ .wrSpriteData d) → (∀ d, i ≠ .wrSpriteAddress d) → t.spriteAddress = s.spriteAddress) := by
  cases i
  case evHblank | evNmi | evScanline | tick | reset => cases hi
  case wrControl0 d =>
    cases h; dsimp only [State.disarmNmi]
    split <;> exact ⟨fun _ => rfl, fun _ _ => rfl, fun _ _ => rfl⟩
  case wrSpriteAddress d => cases h; exact ⟨fun _ => rfl, fun _ _ => rfl, fun _ h => absurd rfl (h d)⟩
  case wrSpriteData d =>
    refine ⟨fun _ => ?_, fun h => absurd rfl (h d), fun h => absurd rfl (h d)⟩
    cases h; split <;> rfl
  case wrScroll d => cases h; split <;> exact ⟨fun _ => rfl, fun _ _ => rfl, fun _ _ => rfl⟩
  case wrAddress d => cases h; split <;> exact ⟨fun _ => rfl, fun _ _ => rfl, fun _ _ => rfl⟩
  case wrData d =>
    refine ⟨fun h => absurd rfl (h d), ?_⟩
    cases h; rw [vramWrite_only]; exact ⟨fun _ _ => rfl, fun _ _ => rfl⟩
  case rdStatus =>
    cases h; dsimp only [State.disarmNmi, State.setVblank, State.respond]
    split <;> exact ⟨fun _ => rfl, fun _ _ => rfl, fun _ _ => rfl⟩
  case rdData =>
    cases h
    have e := prefetch_fetchOnly s
    unfold FetchOnly at e
    dsimp only
    rw [e]; exact ⟨fun _ => rfl, fun _ _ => rfl, fun _ _ => rfl⟩
  case oamDma p =>
    rw [← Host.Outcome.next.inj h, dmaCopy_eq]
    exact ⟨fun _ => rfl, fun _ h => absurd rfl (h p), fun _ _ => rfl⟩
  all_goals (cases h; exact ⟨fun _ => rfl, fun _ _ => rfl, fun _ _ => rfl⟩)

/-- A DATA write lists no pattern byte in the open model or without CHR_WRITABLE (R82). -/
theorem vramWrite_chr_fixed (a : Nat) (v : Byte) {s : State}
    (h : s.patternModel = .openModel ∨ s.variant.chrWritable = false) : (vramWrite a v s).chr = s.chr := by
  have hs : s.chrStores = false := by
    obtain h | h := h <;> simp [State.chrStores, h]
  obtain ⟨-, e⟩ | ⟨-, -, e⟩ | ⟨-, e⟩ := vramWrite_cases a v s <;> rw [e]
  · simp [chrWrite, hs]
  · exact State.writeByte_chr ..
  · exact State.writeByte_chr ..

/-- Settles O58: accesses and events leave the configuration alone by their frames; the pattern bytes are listed by the
DATA port only (`exec_access_stores`), through `chrWrite`. -/
theorem configurationIsFixed : Obligations.ConfigurationIsFixed := by
  intro i s t h
  by_cases hi : isAccess i = true
  · have hf := exec_access hi h
    unfold AccessOnly at hf
    refine ⟨by rw [hf], by rw [hf], by rw [hf], by rw [hf], ?_⟩
    rintro (hd | hc)
    · exact (exec_access_stores hi h).1 hd
    · by_cases hd : ∃ d, i = .wrData d
      · obtain ⟨d, rfl⟩ := hd
        cases h
        exact vramWrite_chr_fixed _ d hc
      · exact (exec_access_stores hi h).1 fun d e => hd ⟨d, e⟩
  · by_cases hr : i = .reset
    · subst hr; cases h
      exact ⟨rfl, rfl, rfl, rfl, fun _ => rfl⟩
    · have hf := exec_eventOnly (by simpa using hi) hr h
      unfold EventOnly at hf
      exact ⟨by rw [hf], by rw [hf], by rw [hf], by rw [hf], fun _ => by rw [hf]⟩

/-- Settles O23: the accesses by `exec_access_stores`; an event, rendering included, keeps OAM and the cursor by its
frame. -/
theorem oamHasTwoWriters : Obligations.OamHasTwoWriters := by
  intro i s t h
  have key : ((∀ d, i ≠ .wrSpriteData d) → (∀ p, i ≠ .oamDma p) → t.oam = s.oam) ∧
      ((∀ d, i ≠ .wrSpriteData d) → (∀ d, i ≠ .wrSpriteAddress d) → i ≠ .reset → t.spriteAddress = s.spriteAddress) := by
    by_cases hi : isAccess i = true
    · obtain ⟨-, ho, hc⟩ := exec_access_stores hi h
      exact ⟨ho, fun h1 h2 _ => hc h1 h2⟩
    · by_cases hr : i = .reset
      · subst hr; cases h
        exact ⟨fun _ _ => rfl, fun _ _ h => absurd rfl h⟩
      · have hf := exec_eventOnly (by simpa using hi) hr h
        unfold EventOnly at hf
        exact ⟨fun _ _ => by rw [hf], fun _ _ _ => by rw [hf]⟩
  refine ⟨fun h1 h2 a => ?_, key.2⟩
  simp only [State.readByte, State.memory, key.1 h1 h2]

/-! ### What each event does -/

/-- Off the visible scanlines an hblank event is its start (R173 (a)). -/
theorem hblankEffect_hidden {s : State} (h : 240 ≤ s.scanline) : hblankEffect s = hblankStart s := by
  unfold hblankEffect
  exact if_neg (by simpa using h)

/-- After its start an hblank event changes only what rendering can. -/
theorem hblankEffect_renderOnly (s : State) : RenderOnly (hblankStart s) (hblankEffect s) := by
  by_cases h : s.scanline < 240
  · rw [hblankEffect_visible s h]; exact renderScanline_renderOnly _ _
  · rw [hblankEffect_hidden (by omega)]; rfl

/-- The outputs of an hblank event: HBLANK, and after it no strobe and no vblank entry. -/
theorem hblankEffect_outputs (s : State) : (hblankEffect s).outputs = s.outputs ++ [s.hblankOutput] ∨
    ∃ row, (hblankEffect s).outputs = s.outputs ++ [s.hblankOutput] ++ [.row s.scanline row] := by
  by_cases h : s.scanline < 240
  · rw [hblankEffect_visible s h, renderScanline_eq]; exact .inr ⟨_, rfl⟩
  · rw [hblankEffect_hidden (by omega)]; exact .inl rfl

/-- The move to the next scanline, field by field (R172). -/
theorem advanceScanline_eq (s : State) : advanceScanline s = { s with
    hblankDone := false, drawPhase := .background, line := LineBuffers.cleared, dot := 0, scanline := s.nextScanline
    refreshData := if s.scanline + 1 = s.variant.scanlinesPerFrame ∧ s.renderingEnabled = true then s.refreshLatch
      else s.refreshData
    outputs := s.outputs ++ [.scanline s.nextScanline] } := by
  unfold advanceScanline verticalReload
  dsimp only
  by_cases h1 : s.scanline + 1 = s.variant.scanlinesPerFrame
  · rw [if_pos h1]
    by_cases h2 : s.renderingEnabled = true
    · rw [if_pos (by exact h2), if_pos ⟨h1, h2⟩]; rfl
    · rw [if_neg (by exact h2), if_neg (fun h => h2 h.2)]; rfl
  · rw [if_neg h1, if_neg (fun h => h1 h.1)]; rfl

/-- Vblank entry, field by field (R172, R283). -/
theorem enterVblank_eq (s : State) : enterVblank s = { s with
    status := setFlag s.status 7 true, outputs := s.outputs ++ [.vblank true]
    nmiArmed := if s.nmiEn = true ∧ s.nmiSuppress = false then true else s.nmiArmed
    nmiTimer := if s.nmiEn = true ∧ s.nmiSuppress = false then s.variant.nmiDelayDots else s.nmiTimer } := by
  unfold enterVblank
  dsimp only
  have e : (s.nmiEn && !s.nmiSuppress) = true ↔ s.nmiEn = true ∧ s.nmiSuppress = false := by simp
  by_cases h : s.nmiEn = true ∧ s.nmiSuppress = false
  · rw [if_pos (e.2 h), if_pos h, if_pos h]; rfl
  · rw [if_neg (fun h' => h (e.1 h')), if_neg h, if_neg h]; rfl

/-- A scanline event onto a scanline that is neither the first of vblank nor PRERENDER. -/
theorem scanlineEffect_plain {s : State} (hv : s.nextScanline ≠ s.variant.vblankFirstScanline)
    (hp : s.nextScanline + 1 ≠ s.variant.scanlinesPerFrame) : scanlineEffect s = advanceScanline s := by
  have e : (advanceScanline s).scanline = s.nextScanline ∧ (advanceScanline s).variant = s.variant := by
    rw [advanceScanline_eq]; exact ⟨rfl, rfl⟩
  simp only [scanlineEffect, e, if_neg hv, if_neg hp]

/-- A scanline event onto the first scanline of vblank. -/
theorem scanlineEffect_vblank {s : State} (hv : s.nextScanline = s.variant.vblankFirstScanline)
    (hp : s.nextScanline + 1 ≠ s.variant.scanlinesPerFrame) : scanlineEffect s = enterVblank (advanceScanline s) := by
  have e : (advanceScanline s).scanline = s.nextScanline ∧ (advanceScanline s).variant = s.variant := by
    rw [advanceScanline_eq]; exact ⟨rfl, rfl⟩
  have e' : (enterVblank (advanceScanline s)).scanline = s.nextScanline ∧
      (enterVblank (advanceScanline s)).variant = s.variant := by
    rw [enterVblank_eq]; exact e
  simp only [scanlineEffect, e, if_pos hv, e', if_neg hp]

/-- A scanline event onto PRERENDER where that is not the first scanline of vblank. -/
theorem scanlineEffect_prerender {s : State} (hv : s.nextScanline ≠ s.variant.vblankFirstScanline)
    (hp : s.nextScanline + 1 = s.variant.scanlinesPerFrame) :
    scanlineEffect s = enterPrerender (advanceScanline s) := by
  have e : (advanceScanline s).scanline = s.nextScanline ∧ (advanceScanline s).variant = s.variant := by
    rw [advanceScanline_eq]; exact ⟨rfl, rfl⟩
  simp only [scanlineEffect, e, if_neg hv, if_pos hp]

/-- A property that each of the two halves of a scanline event keeps (in a frame too short for R6 they coincide). -/
theorem scanlineEffect_keep {P : State → Prop} {s : State} (ha : P (advanceScanline s))
    (hv : ∀ t, P t → P (enterVblank t)) (hp : ∀ t, P t → P (enterPrerender t)) : P (scanlineEffect s) := by
  have h1 : P (if (advanceScanline s).scanline = (advanceScanline s).variant.vblankFirstScanline then
      enterVblank (advanceScanline s) else advanceScanline s) := by
    split
    · exact hv _ ha
    · exact ha
  have h2 : ∀ t, P t → P (if t.scanline + 1 = t.variant.scanlinesPerFrame then enterPrerender t else t) := by
    intro t ht
    split
    · exact hp t ht
    · exact ht
  exact h2 _ h1

theorem nmiEvent_cases (s : State) : (s.nmiArmed = true ∧ nmiEvent s = s.deliverNmi) ∨
    (s.nmiArmed = false ∧ nmiEvent s = s) := by
  unfold nmiEvent
  split
  · next h => exact .inl ⟨h, rfl⟩
  · next h => exact .inr ⟨by simpa using h, rfl⟩

theorem deliverDue_cases (s : State) : deliverDue s = nmiEvent s ∨ deliverDue s = s := by
  unfold deliverDue
  split
  · exact .inl rfl
  · exact .inr rfl

/-- A tick counts an armed timer down; with none armed, or at 0, it leaves it. -/
theorem countDown_eq (s : State) : countDown s = { s with nmiTimer := if s.nmiArmed then s.nmiTimer - 1 else s.nmiTimer } := by
  unfold countDown
  split
  · next h =>
    have ha : s.nmiArmed = true := by simp at h; exact h.1
    rw [if_pos ha]
  · next h =>
    have e : (if s.nmiArmed then s.nmiTimer - 1 else s.nmiTimer) = s.nmiTimer := by
      split
      · next ha =>
        have h0 : s.nmiTimer = 0 := by simpa [ha] using h
        rw [h0]
      · rfl
    rw [e]

/-- What the events keep: the two events with an effect of their own, the NMI, the dot and the timer. -/
structure EventKept (P : State → Prop) : Prop where
  hblank : ∀ s, P s → P (hblankEffect s)
  scanline : ∀ s, P s → P (scanlineEffect s)
  nmi : ∀ s, P s → P (nmiEvent s)
  dot : ∀ s n, P s → P { s with dot := n }
  timer : ∀ s n, P s → P { s with nmiTimer := n }

/-- What the events keep, a TICK keeps. -/
theorem EventKept.ticks {P : State → Prop} (hP : EventKept P) {n : Nat} {s t : State} (hs : P s)
    (h : ticks n s = .next t) : P t := by
  refine ticks_keep (P := P) (fun s t hs h => ?_) hs h
  obtain ⟨u, h1, rfl⟩ := tick1_next h
  have hc : P (countDown s) := by rw [countDown_eq]; exact hP.timer s _ hs
  have hu : P u := by
    obtain ⟨-, -, rfl⟩ | ⟨-, -, -, rfl⟩ | ⟨-, -, rfl⟩ := advanceDot_next h1
    · exact hP.scanline _ hc
    · exact hP.hblank _ hc
    · exact hP.dot _ _ hc
  obtain e | e := deliverDue_cases u <;> rw [e]
  · exact hP.nmi u hu
  · exact hu

/-- What the events, an access and RESET keep, every operation keeps. -/
theorem EventKept.exec {P : State → Prop} (hP : EventKept P) {i : Instr} {s t : State} (hs : P s)
    (ha : isAccess i = true → P t) (hr : P (performReset s)) (h : exec i s = .next t) : P t := by
  obtain hi | ⟨-, -, rfl⟩ | ⟨-, rfl⟩ | ⟨-, -, rfl⟩ | ⟨n, -, hn⟩ | ⟨-, rfl⟩ := exec_next h
  · exact ha hi
  · exact hP.hblank s hs
  · exact hP.nmi s hs
  · exact hP.scanline s hs
  · exact hP.ticks hs hn
  · exact hr

/-! ### The scanline counter (R40) -/

theorem hblankEffect_scanline (s : State) : (hblankEffect s).scanline = s.scanline ∧ (hblankEffect s).variant = s.variant := by
  have hf := hblankEffect_renderOnly s
  unfold RenderOnly at hf
  rw [hf]
  exact ⟨rfl, rfl⟩

theorem scanlineEffect_scanline (s : State) : (scanlineEffect s).scanline = s.nextScanline ∧
    (scanlineEffect s).variant = s.variant := by
  refine scanlineEffect_keep (P := fun t => t.scanline = s.nextScanline ∧ t.variant = s.variant) ?_
    (fun t ht => ?_) (fun t ht => ht)
  · rw [advanceScanline_eq]; exact ⟨rfl, rfl⟩
  · rw [enterVblank_eq]; exact ht

theorem nmiEvent_scanline (s : State) : (nmiEvent s).scanline = s.scanline ∧ (nmiEvent s).variant = s.variant := by
  obtain ⟨-, e⟩ | ⟨-, e⟩ := nmiEvent_cases s <;> rw [e] <;> exact ⟨rfl, rfl⟩

theorem nextScanline_lt {s : State} (h : s.scanline < s.variant.scanlinesPerFrame) :
    s.nextScanline < s.variant.scanlinesPerFrame := by
  unfold State.nextScanline
  split <;> omega

/-- The counter is in the frame. -/
def ScanlineInFrame (s : State) : Prop := s.scanline < s.variant.scanlinesPerFrame

theorem scanlineInFrame_kept : EventKept ScanlineInFrame where
  hblank s h := by unfold ScanlineInFrame; rw [(hblankEffect_scanline s).1, (hblankEffect_scanline s).2]; exact h
  scanline s h := by
    unfold ScanlineInFrame; rw [(scanlineEffect_scanline s).1, (scanlineEffect_scanline s).2]; exact nextScanline_lt h
  nmi s h := by unfold ScanlineInFrame; rw [(nmiEvent_scanline s).1, (nmiEvent_scanline s).2]; exact h
  dot _ _ h := h
  timer _ _ h := h

/-- Settles O56: accesses keep the counter by their frame, each event by its own lemma, and the range is kept by all of
them (`scanlineInFrame_kept`). -/
theorem scanlineCounterMoves : Obligations.ScanlineCounterMoves := by
  intro i s t h
  have hacc : isAccess i = true → t.scanline = s.scanline ∧ t.variant = s.variant := fun hi => by
    have hf := exec_access hi h
    unfold AccessOnly at hf
    rw [hf]; exact ⟨rfl, rfl⟩
  refine ⟨?_, ?_, ?_, fun hlt => scanlineInFrame_kept.exec (i := i) (s := s) hlt (fun hi => ?_) ?_ h⟩
  · rintro rfl
    rw [(scanlineEvent_next h).2, (scanlineEffect_scanline s).1, State.nextScanline]
  · rintro rfl
    cases h; rfl
  · intro h1 h2 h3
    obtain hi | ⟨-, -, rfl⟩ | ⟨-, rfl⟩ | ⟨e, -⟩ | ⟨n, e, -⟩ | ⟨e, -⟩ := exec_next h
    · exact (hacc hi).1
    · exact (hblankEffect_scanline s).1
    · exact (nmiEvent_scanline s).1
    · exact absurd e h1
    · exact absurd e (h3 n)
    · exact absurd e h2
  · rw [ScanlineInFrame, (hacc hi).1, (hacc hi).2]; exact hlt
  · exact Nat.zero_lt_of_lt hlt

/-! ### The NMI (R132, R184, R290) -/

theorem hblankEffect_nmi (s : State) : (hblankEffect s).nmiArmed = s.nmiArmed ∧ (hblankEffect s).nmiTimer = s.nmiTimer ∧
    (hblankEffect s).nmiSuppress = s.nmiSuppress := by
  have hf := hblankEffect_renderOnly s
  unfold RenderOnly at hf
  rw [hf]
  exact ⟨rfl, rfl, rfl⟩

/-- An access may disarm the NMI, it never arms it. -/
theorem exec_access_armed_le {i : Instr} {s t : State} (hi : isAccess i = true) (h : exec i s = .next t) :
    t.nmiArmed.toNat ≤ s.nmiArmed.toNat := by
  obtain ⟨e, -⟩ | ⟨e, -⟩ := exec_access_nmi hi h <;> rw [e]
  exact Nat.zero_le _

/-- Settles O55: an access never arms (`exec_access_armed_le`), an hblank event keeps the schedule, EV_NMI and RESET end
it. -/
theorem onlyTheScanlineEventArms : Obligations.OnlyTheScanlineEventArms := by
  intro i s t h hs ht
  obtain hi | ⟨-, -, rfl⟩ | ⟨-, rfl⟩ | ⟨e, -⟩ | ⟨n, e, -⟩ | ⟨-, rfl⟩ := exec_next h
  · have := exec_access_armed_le hi h
    rw [hs, ht] at this
    exact absurd this (by decide)
  · rw [(hblankEffect_nmi s).1, hs] at ht; cases ht
  · obtain ⟨ha, -⟩ | ⟨-, e⟩ := nmiEvent_cases s
    · rw [hs] at ha; cases ha
    · rw [e, hs] at ht; cases ht
  · exact .inl e
  · exact .inr ⟨n, e⟩
  · cases ht

/-- One more output restarts the count at a vblank entry, adds one at a strobe and leaves it otherwise. -/
theorem nmisSinceVblank_append (history : List OutputEvent) (e : OutputEvent) : nmisSinceVblank (history ++ [e]) =
    if e = .vblank true then 0 else nmisSinceVblank history + if e = .nmi then 1 else 0 := by
  unfold nmisSinceVblank
  rw [List.reverse_append, List.reverse_singleton, List.singleton_append, List.takeWhile_cons]
  by_cases h : e = .vblank true
  · simp [h]
  · simp [h, List.count_cons]

/-- An output that is neither a strobe nor a vblank entry does not count. -/
theorem nmisSinceVblank_append_quiet (history : List OutputEvent) {e : OutputEvent} (hv : e ≠ .vblank true)
    (hn : e ≠ .nmi) : nmisSinceVblank (history ++ [e]) = nmisSinceVblank history := by
  rw [nmisSinceVblank_append, if_neg hv, if_neg hn, Nat.add_zero]

/-- The strobes since vblank entry and a still armed one are at most one. -/
def NmiOnce (s : State) : Prop := nmisSinceVblank s.outputs + s.nmiArmed.toNat ≤ 1

theorem NmiOnce.of_eq {s t : State} (h : NmiOnce s) (ho : nmisSinceVblank t.outputs = nmisSinceVblank s.outputs)
    (ha : t.nmiArmed.toNat ≤ s.nmiArmed.toNat) : NmiOnce t := by
  unfold NmiOnce at *
  omega

theorem nmiOnce_kept : EventKept NmiOnce where
  hblank s h := by
    have hq : nmisSinceVblank (s.outputs ++ [s.hblankOutput]) = nmisSinceVblank s.outputs :=
      nmisSinceVblank_append_quiet _ (by simp [State.hblankOutput]) (by simp [State.hblankOutput])
    refine h.of_eq ?_ (by rw [(hblankEffect_nmi s).1])
    obtain e | ⟨row, e⟩ := hblankEffect_outputs s <;> rw [e]
    · exact hq
    · rw [nmisSinceVblank_append_quiet _ (by simp) (by simp), hq]
  scanline s h := by
    refine scanlineEffect_keep (P := NmiOnce) ?_ (fun t _ => ?_) (fun t ht => ?_)
    · rw [advanceScanline_eq]
      exact h.of_eq (nmisSinceVblank_append_quiet _ (by simp) (by simp)) (le_refl _)
    · have e : nmisSinceVblank (enterVblank t).outputs = 0 := by
        rw [enterVblank_eq]; simp [nmisSinceVblank_append]
      unfold NmiOnce
      rw [e, Nat.zero_add]
      exact Bool.toNat_le _
    · exact ht.of_eq (nmisSinceVblank_append_quiet _ (by simp) (by simp)) (Nat.zero_le _)
  nmi s h := by
    obtain ⟨ha, e⟩ | ⟨-, e⟩ := nmiEvent_cases s <;> rw [e]
    · have h0 : nmisSinceVblank s.outputs = 0 := by simpa [NmiOnce, ha] using h
      simp [NmiOnce, nmisSinceVblank_append, h0]
    · exact h
  dot _ _ h := h
  timer _ _ h := h

/-- Settles O54: the bound is kept by every event (`nmiOnce_kept`): a strobe disarms, a vblank entry restarts the count;
an access emits nothing and never arms. -/
theorem nmiAtMostOncePerVblank : Obligations.NmiAtMostOncePerVblank := by
  intro s t hs h
  obtain ⟨w, rest, i, -, -, hx⟩ := step_next h
  have hs' : NmiOnce s.takeNext := hs
  refine nmiOnce_kept.exec hs' (fun hi => ?_) ?_ hx
  · have hf := exec_access hi hx
    unfold AccessOnly at hf
    exact hs'.of_eq (by rw [hf]) (exec_access_armed_le hi hx)
  · exact hs'.of_eq rfl (Nat.zero_le _)

end Sys2Proof.Machine
end

section
/-! The legal states (O49, O51 to O53): each access and each event keeps the invariant, and the dot clock meets the event
contract in a legal state. -/

namespace Sys2Proof.Machine

/-! ### The parts of the invariant, by the fields they read -/

theorem PositionOk.congr {s t : State} (h : PositionOk s) (hv : t.variant = s.variant) (hl : t.scanline = s.scanline)
    (hd : t.dot = s.dot) (hb : t.hblankDone = s.hblankDone) (hp : t.drawPhase = s.drawPhase) : PositionOk t :=
  ⟨by rw [hl, hv]; exact h.scanlineInFrame, by rw [hd, hv]; exact h.dotInLine, by rw [hb, hd, hv]; exact h.hblankAtDot,
    by rw [hp, hb, hl]; exact h.spritePhase⟩

theorem InterruptOk.congr {s t : State} (h : InterruptOk s) (hv : t.variant = s.variant) (hl : t.scanline = s.scanline)
    (hc : t.control0 = s.control0) (hs : t.status = s.status) (ha : t.nmiArmed = s.nmiArmed)
    (ht : t.nmiTimer = s.nmiTimer) (hu : t.nmiSuppress = s.nmiSuppress) : InterruptOk t := by
  have hp : t.phase = s.phase := by rw [State.phase, State.phase, hv, hl]
  have hn : t.nmiEn = s.nmiEn := by rw [State.nmiEn, State.nmiEn, hc]
  have hf : t.vblankFlag = s.vblankFlag := by rw [State.vblankFlag, State.vblankFlag, hs]
  exact ⟨by rw [ht, hv]; exact h.timerBound, by rw [ha, ht]; exact h.timerIdle, by rw [ha, hn]; exact h.armedEnabled,
    by rw [ha, hu]; exact h.armedNotSuppressed, by rw [ha, hp]; exact h.armedInVblank,
    by rw [hu, hv, hl]; exact h.suppressNearVblank, by rw [hf, hp]; exact h.flagInVblank, by rw [hs]; exact h.statusLow⟩

/-- The low STATUS bits stay 0 where no bit of them is set. -/
theorem statusLow_of_le {s t : Byte} (h : bits s 0 5 = 0) (hle : ∀ b < 5, t.getLsbD b = true → s.getLsbD b = true) :
    bits t 0 5 = 0 := by
  apply BitVec.eq_of_getLsbD_eq
  intro b hb
  have hs : (bits s 0 5).getLsbD b = false := by rw [h]; simp
  rw [getLsbD_bits, Nat.zero_add] at hs ⊢
  cases ht : t.getLsbD b with
  | false => simp
  | true => simp [hb, hle b hb ht] at hs

/-! ### Accesses -/

/-- Beside WR_CONTROL0 and RD_STATUS no access changes CONTROL0, STATUS or the NMI schedule. -/
theorem exec_access_quiet {i : Instr} {s t : State} (hi : isAccess i = true) (hw : ∀ d, i ≠ .wrControl0 d)
    (hr : i ≠ .rdStatus) (h : exec i s = .next t) : t.control0 = s.control0 ∧ t.status = s.status ∧
    t.nmiArmed = s.nmiArmed ∧ t.nmiTimer = s.nmiTimer ∧ t.nmiSuppress = s.nmiSuppress := by
  cases i
  case evHblank | evNmi | evScanline | tick | reset => cases hi
  case wrControl0 d => exact absurd rfl (hw d)
  case rdStatus => exact absurd rfl hr
  case wrSpriteData d => cases h; split <;> exact ⟨rfl, rfl, rfl, rfl, rfl⟩
  case wrScroll d => cases h; split <;> exact ⟨rfl, rfl, rfl, rfl, rfl⟩
  case wrAddress d => cases h; split <;> exact ⟨rfl, rfl, rfl, rfl, rfl⟩
  case wrData d => cases h; rw [vramWrite_only]; exact ⟨rfl, rfl, rfl, rfl, rfl⟩
  case rdData =>
    cases h
    have e := prefetch_fetchOnly s
    unfold FetchOnly at e
    dsimp only
    rw [e]; exact ⟨rfl, rfl, rfl, rfl, rfl⟩
  case oamDma p => rw [← Host.Outcome.next.inj h, dmaCopy_eq]; exact ⟨rfl, rfl, rfl, rfl, rfl⟩
  all_goals (cases h; exact ⟨rfl, rfl, rfl, rfl, rfl⟩)

theorem InterruptOk.wrControl0 {s t : State} (h : InterruptOk s) {d : Byte} (hx : exec (.wrControl0 d) s = .next t) :
    InterruptOk t := by
  rw [exec_wrControl0] at hx
  cases hx
  cases hd : d.getLsbD 7 with
  | false =>
    exact ⟨by simp, fun _ => by simp, by simp, by simp, by simp, h.suppressNearVblank, h.flagInVblank, h.statusLow⟩
  | true =>
    exact ⟨h.timerBound, h.timerIdle, fun _ => hd, h.armedNotSuppressed, h.armedInVblank, h.suppressNearVblank,
      h.flagInVblank, h.statusLow⟩

theorem InterruptOk.rdStatus {s t : State} (hv : s.variant.Ok) (h : InterruptOk s) (hx : exec .rdStatus s = .next t) :
    InterruptOk t := by
  obtain ⟨-, hframe, -⟩ := hv
  rw [exec_rdStatus] at hx
  cases hx
  have hflag : (setFlag s.status 7 false).getLsbD 7 = true → s.phase = .vblank := fun hf => by
    rw [getLsbD_setFlag _ _ _ _ (by decide), if_pos rfl] at hf
    cases hf
  have hlow : bits (setFlag s.status 7 false) 0 5 = 0 := by rw [bits_low_setFlag _ _ _ (by decide)]; exact h.statusLow
  cases hw : inRaceWindow s.variant s.scanline s.dot with
  | false =>
    exact ⟨h.timerBound, h.timerIdle, h.armedEnabled, h.armedNotSuppressed, h.armedInVblank, h.suppressNearVblank, hflag,
      hlow⟩
  | true =>
    have hnear := (inRaceWindow_iff _ _ _).1 hw
    refine ⟨by simp, fun _ => by simp, by simp, by simp, by simp, fun _ => ?_, hflag, hlow⟩
    dsimp only
    omega

theorem Inv.access {i : Instr} {s t : State} (h : Inv s) (hi : isAccess i = true) (hx : exec i s = .next t) : Inv t := by
  have hf := exec_access hi hx
  unfold AccessOnly at hf
  refine ⟨by rw [hf]; exact h.variantOk, h.position.congr (by rw [hf]) (by rw [hf]) (by rw [hf]) (by rw [hf]) (by rw [hf]),
    ?_, exec_access_memories hi hx h.memories, by rw [hf]; exact h.line⟩
  by_cases hw : ∃ d, i = .wrControl0 d
  · obtain ⟨d, rfl⟩ := hw
    exact h.interrupt.wrControl0 hx
  by_cases hr : i = .rdStatus
  · subst hr
    exact h.interrupt.rdStatus h.variantOk hx
  obtain ⟨hc, hs, ha, ht, hu⟩ := exec_access_quiet hi (fun d e => hw ⟨d, e⟩) hr hx
  exact h.interrupt.congr (by rw [hf]) (by rw [hf]) hc hs ha ht hu

/-! ### The hblank event -/

/-- STATUS after a rendered scanline: OVERFLOW and SPRITE0_HIT are set by their rules, no other bit changes (R236, R245). -/
theorem renderScanline_status (y : Nat) (s : State) (b : Nat) : (renderScanline y s).status.getLsbD b =
    (s.status.getLsbD b || (s.renderingEnabled && decide (b = 5) && decide (8 < (s.spritesInRange y).length)) ||
      (s.sprEn && decide (b = 6) && (List.range 256).any (spriteStage y (backgroundStage s)).sprite0HitAt)) := by
  obtain ⟨ho, hv, hc0, hc1, -, -⟩ := backgroundStage_fields s
  have hr : (backgroundStage s).renderingEnabled = s.renderingEnabled := by
    simp only [State.renderingEnabled, State.bgEn, State.sprEn, hc1]
  have he : (backgroundStage s).sprEn = s.sprEn := by simp only [State.sprEn, hc1]
  rw [renderScanline_eq]
  show (sprLine y (backgroundStage s)).status.getLsbD b = _
  rw [sprLine_status, backgroundStage_status, hr, he, spritesInRange_congr ho hv hc0]

/-- An hblank event sets no bit of STATUS but SPRITE0_HIT and OVERFLOW. -/
theorem hblankEffect_status_other (s : State) {b : Nat} (h5 : b ≠ 5) (h6 : b ≠ 6) :
    (hblankEffect s).status.getLsbD b = s.status.getLsbD b := by
  by_cases h : s.scanline < 240
  · rw [hblankEffect_visible s h, renderScanline_status]
    simp only [h5, h6, decide_false, Bool.and_false, Bool.false_and, Bool.or_false]
    rfl
  · rw [hblankEffect_hidden (by omega)]; rfl

theorem PositionOk.hblankEffect {s : State} (hv : s.variant.Ok) (h : PositionOk s) (hd : s.hblankDone = false) :
    PositionOk (hblankEffect s) := by
  obtain ⟨-, -, -, hdot, -⟩ := hv
  have hf := hblankEffect_renderOnly s
  unfold RenderOnly at hf
  refine ⟨by rw [hf]; exact h.scanlineInFrame, by rw [hf]; exact hdot, by rw [hf]; simp [hblankStart], fun hp => ?_⟩
  by_cases hl : s.scanline < 240
  · rw [hf]; exact ⟨rfl, hl⟩
  · rw [hblankEffect_hidden (by omega)] at hp
    have := (h.spritePhase hp).1
    rw [hd] at this
    cases this

theorem InterruptOk.hblankEffect {s : State} (h : InterruptOk s) : InterruptOk (hblankEffect s) := by
  have hf := hblankEffect_renderOnly s
  unfold RenderOnly at hf
  have h7 : (Machine.hblankEffect s).vblankFlag = s.vblankFlag := hblankEffect_status_other s (by decide) (by decide)
  have hp : (Machine.hblankEffect s).phase = s.phase := by rw [hf]; rfl
  refine ⟨?_, ?_, ?_, ?_, ?_, ?_, ?_, statusLow_of_le h.statusLow fun b hb hs => ?_⟩
  · rw [hf]; exact h.timerBound
  · rw [hf]; exact h.timerIdle
  · rw [hf]; exact h.armedEnabled
  · rw [hf]; exact h.armedNotSuppressed
  · rw [hf]; exact h.armedInVblank
  · rw [hf]; exact h.suppressNearVblank
  · rw [h7, hp]; exact h.flagInVblank
  · rwa [hblankEffect_status_other s (by omega) (by omega)] at hs

/-- Rendering stores one row of 256 pixels and keeps every other memory (R266). -/
theorem MemoriesOk.renderScanline {s : State} (h : MemoriesOk s) {y : Nat} (hy : y < 240) :
    MemoriesOk (renderScanline y s) := by
  have hf := renderScanline_renderOnly y s
  unfold RenderOnly at hf
  have hfb : (Machine.renderScanline y s).fb = Cells.store s.fb y
      ((sprLine y (backgroundStage s)).line.outIdx.map (sprLine y (backgroundStage s)).colorOf) := by
    rw [renderScanline_eq]
  refine ⟨by rw [hf]; exact h.nametables, by rw [hf]; exact h.palette, by rw [hf]; exact h.paletteMirrored,
    by rw [hf]; exact h.oam, by rw [hf]; exact h.pattern, by rw [hf]; exact h.external,
    by rw [hfb]; exact Cells.store_canonical _ h.framebuffer hy, fun r hr => ?_⟩
  rw [hfb] at hr
  obtain rfl | hr := Cells.mem_store hr
  · rw [List.length_map, sprLine_outIdx_length]
  · exact h.rowLength r hr

theorem Inv.hblankEffect {s : State} (h : Inv s) (hd : s.hblankDone = false) : Inv (hblankEffect s) := by
  have hv : (Machine.hblankEffect s).variant = s.variant := (hblankEffect_scanline s).2
  have hm : MemoriesOk (hblankStart s) := h.memories.congr rfl rfl rfl rfl rfl rfl
  refine ⟨by rw [hv]; exact h.variantOk, h.position.hblankEffect h.variantOk hd, h.interrupt.hblankEffect, ?_, ?_⟩
  · by_cases hl : s.scanline < 240
    · rw [hblankEffect_visible s hl]; exact hm.renderScanline hl
    · rw [hblankEffect_hidden (by omega)]; exact hm
  · by_cases hl : s.scanline < 240
    · rw [hblankEffect_visible s hl]; exact render_lineOk _ _
    · rw [hblankEffect_hidden (by omega)]; exact h.line

/-! ### The scanline event -/

/-- What every scanline event does to the position and the line, and that it stores nothing (R172). -/
theorem scanlineEffect_rest (s : State) : (scanlineEffect s).dot = 0 ∧ (scanlineEffect s).hblankDone = false ∧
    (scanlineEffect s).drawPhase = .background ∧ (scanlineEffect s).line = LineBuffers.cleared ∧
    (scanlineEffect s).fb = s.fb := by
  refine scanlineEffect_keep (P := fun t => t.dot = 0 ∧ t.hblankDone = false ∧ t.drawPhase = .background ∧
    t.line = LineBuffers.cleared ∧ t.fb = s.fb) ?_ (fun t ht => ?_) (fun t ht => ht)
  · rw [advanceScanline_eq]; exact ⟨rfl, rfl, rfl, rfl, rfl⟩
  · rw [enterVblank_eq]; exact ht

/-- The scanline after one of the frame, by where it lies (R6, R172). -/
theorem nextScanline_cases {s : State} (h : s.scanline < s.variant.scanlinesPerFrame) :
    (s.scanline + 1 = s.variant.scanlinesPerFrame ∧ s.nextScanline = 0) ∨
    (s.scanline + 1 < s.variant.scanlinesPerFrame ∧ s.nextScanline = s.scanline + 1) := by
  unfold State.nextScanline
  split
  · next e => exact .inl ⟨e, rfl⟩
  · next e => exact .inr ⟨by omega, rfl⟩

/-- The interrupt state after the move, before vblank or PRERENDER entry: the registers are as they were. -/
theorem InterruptOk.advance_plain {s : State} (hv : s.variant.Ok) (hl : s.scanline < s.variant.scanlinesPerFrame)
    (h : InterruptOk s)
    (h2 : s.nextScanline + 1 ≠ s.variant.scanlinesPerFrame) : InterruptOk (advanceScanline s) := by
  rw [advanceScanline_eq]
  have hn := nextScanline_cases hl
  have hphase : s.phase = .vblank → ∀ t : State, t.variant = s.variant → t.scanline = s.nextScanline → t.phase = .vblank := by
    intro hp t htv htl
    rw [phase_eq_vblank s hv] at hp
    rw [phase_eq_vblank t (by rw [htv]; exact hv), htv, htl]
    omega
  refine ⟨h.timerBound, h.timerIdle, h.armedEnabled, h.armedNotSuppressed,
    fun ha => hphase (h.armedInVblank ha) _ rfl rfl, fun hs => ?_, fun hf => hphase (h.flagInVblank hf) _ rfl rfl,
    h.statusLow⟩
  have := h.suppressNearVblank hs
  dsimp only
  omega

/-- Vblank entry from a state with no NMI armed: it is armed only if enabled and not suppressed (R283). -/
theorem InterruptOk.enterVblank {s : State} (hv : s.variant.Ok) (hl : s.scanline = s.variant.vblankFirstScanline)
    (ha : s.nmiArmed = false) (ht : s.nmiTimer = 0) (h : bits s.status 0 5 = 0) : InterruptOk (enterVblank s) := by
  have hp : s.phase = .vblank := by
    rw [phase_eq_vblank s hv, hl]
    obtain ⟨-, hlast, -⟩ := hv
    exact ⟨le_refl _, hlast⟩
  have hnear : s.variant.vblankFirstScanline ≤ s.scanline + 1 ∧ s.scanline + 1 < s.variant.scanlinesPerFrame := by
    obtain ⟨-, hlast, -⟩ := hv
    omega
  have hlow : bits (setFlag s.status 7 true) 0 5 = 0 := by rw [bits_low_setFlag _ _ _ (by decide)]; exact h
  rw [enterVblank_eq]
  by_cases hc : s.nmiEn = true ∧ s.nmiSuppress = false
  · simp only [if_pos hc]
    exact ⟨le_refl _, nofun, fun _ => hc.1, fun _ => hc.2, fun _ => hp, fun _ => hnear, fun _ => hp, hlow⟩
  · simp only [if_neg hc, ha, ht]
    exact ⟨Nat.zero_le _, fun _ => rfl, nofun, nofun, nofun, fun _ => hnear, fun _ => hp, hlow⟩

/-- Before vblank entry no NMI is armed. -/
theorem InterruptOk.idle_before_vblank {s : State} (hv : s.variant.Ok) (hl : s.scanline < s.variant.scanlinesPerFrame)
    (h : InterruptOk s) (h1 : s.nextScanline = s.variant.vblankFirstScanline) : s.nmiArmed = false := by
  rw [Bool.eq_false_iff]
  intro ha
  have hp := h.armedInVblank ha
  rw [phase_eq_vblank s hv] at hp
  have hn := nextScanline_cases hl
  obtain ⟨h240, -⟩ := hv
  omega

theorem InterruptOk.enterPrerender {s : State} (h : bits s.status 0 5 = 0) : InterruptOk (enterPrerender s) := by
  have hflag : (setBits s.status 5 (0 : BitVec 3)).getLsbD 7 = true → (Machine.enterPrerender s).phase = .vblank := by
    intro hf
    rw [getLsbD_setBits] at hf
    simp at hf
  exact ⟨Nat.zero_le _, fun _ => rfl, nofun, nofun, nofun, nofun, hflag,
    (bits_setBits_disjoint _ _ _ _ _ (by decide)).trans h⟩

theorem InterruptOk.scanlineEffect {s : State} (hv : s.variant.Ok) (hl : s.scanline < s.variant.scanlinesPerFrame)
    (h : InterruptOk s) : InterruptOk (scanlineEffect s) := by
  by_cases h1 : s.nextScanline = s.variant.vblankFirstScanline
  · have h2 : s.nextScanline + 1 ≠ s.variant.scanlinesPerFrame := by
      obtain ⟨-, hlast, -⟩ := hv
      omega
    rw [scanlineEffect_vblank h1 h2]
    have ha := h.idle_before_vblank hv hl h1
    refine InterruptOk.enterVblank ?_ ?_ ?_ ?_ ?_ <;> rw [advanceScanline_eq]
    exacts [hv, h1, ha, h.timerIdle ha, h.statusLow]
  by_cases h2 : s.nextScanline + 1 = s.variant.scanlinesPerFrame
  · rw [scanlineEffect_prerender h1 h2]
    exact InterruptOk.enterPrerender (by rw [advanceScanline_eq]; exact h.statusLow)
  · rw [scanlineEffect_plain h1 h2]
    exact h.advance_plain hv hl h2

theorem Inv.scanlineEffect {s : State} (h : Inv s) : Inv (scanlineEffect s) := by
  have hf := scanlineEffect_eventOnly s
  unfold EventOnly at hf
  obtain ⟨hl, hv⟩ := scanlineEffect_scanline s
  obtain ⟨hdot, hdone, hphase, hline, hfb⟩ := scanlineEffect_rest s
  have hin := h.position.scanlineInFrame
  have hok := h.variantOk
  obtain ⟨-, -, h1, hd, -⟩ := hok
  refine ⟨by rw [hv]; exact h.variantOk,
    ⟨by rw [hl, hv]; exact nextScanline_lt hin, by rw [hdot, hv]; omega, ?_, by rw [hphase]; nofun⟩,
    h.interrupt.scanlineEffect h.variantOk hin,
    h.memories.congr (by rw [hf]) (by rw [hf]) (by rw [hf]) (by rw [hf]) (by rw [hf]) hfb,
    by rw [hline]; exact cleared_lineOk⟩
  rw [hdone, hdot, hv]
  simp only [Bool.false_eq_true, false_iff]
  omega

/-! ### The NMI event, the dot clock and RESET -/

theorem Inv.nmiEvent {s : State} (h : Inv s) : Inv (nmiEvent s) := by
  obtain ⟨-, e⟩ | ⟨-, e⟩ := nmiEvent_cases s <;> rw [e]
  · have hi := h.interrupt
    exact ⟨h.variantOk, h.position.congr rfl rfl rfl rfl rfl, ⟨Nat.zero_le _, fun _ => rfl, nofun, nofun, nofun,
      hi.suppressNearVblank, hi.flagInVblank, hi.statusLow⟩, h.memories.congr rfl rfl rfl rfl rfl rfl, h.line⟩
  · exact h

theorem Inv.countDown {s : State} (h : Inv s) : Inv (countDown s) := by
  rw [countDown_eq]
  have hi := h.interrupt
  refine ⟨h.variantOk, h.position.congr rfl rfl rfl rfl rfl, ⟨?_, fun ha => ?_, hi.armedEnabled, hi.armedNotSuppressed,
    hi.armedInVblank, hi.suppressNearVblank, hi.flagInVblank, hi.statusLow⟩, h.memories.congr rfl rfl rfl rfl rfl rfl, h.line⟩
  · have := hi.timerBound
    dsimp only
    split <;> omega
  · have ha' : s.nmiArmed = false := ha
    simpa [ha'] using hi.timerIdle ha'

/-- In a legal state the dot clock meets the event contract (R175 (c)): the hblank event is taken exactly from its dot
on, so the last dot of a line has it and the dot before HBLANK_DOT does not. -/
theorem Inv.advanceDot {s : State} (h : Inv s) : ∃ t, advanceDot s = .next t ∧ Inv t := by
  obtain ⟨-, -, -, hd, -⟩ := h.variantOk
  have hat := h.position.hblankAtDot
  unfold Machine.advanceDot
  by_cases h1 : s.dot + 1 = s.variant.dotsPerLine
  · rw [if_pos h1, scanlineEvent, if_pos (hat.2 (by omega))]
    exact ⟨_, rfl, h.scanlineEffect⟩
  rw [if_neg h1]
  by_cases h2 : s.dot + 1 = s.variant.hblankDot
  · have hno : s.hblankDone = false := Bool.eq_false_iff.2 fun hb => by have := hat.1 hb; omega
    rw [if_pos h2, hblankEvent, hno]
    exact ⟨_, rfl, h.hblankEffect hno⟩
  · rw [if_neg h2]
    have hp := h.position
    have hin := hp.dotInLine
    have hat' : s.hblankDone = true ↔ s.variant.hblankDot ≤ s.dot + 1 := by rw [hat]; omega
    exact ⟨_, rfl, h.variantOk, ⟨hp.scanlineInFrame, show s.dot + 1 < s.variant.dotsPerLine by omega, hat', hp.spritePhase⟩,
      h.interrupt.congr rfl rfl rfl rfl rfl rfl rfl, h.memories.congr rfl rfl rfl rfl rfl rfl, h.line⟩

theorem Inv.tick1 {s : State} (h : Inv s) : ∃ t, tick1 s = .next t ∧ Inv t := by
  obtain ⟨u, hu, hi⟩ := h.countDown.advanceDot
  refine ⟨deliverDue u, by rw [Machine.tick1, hu]; rfl, ?_⟩
  obtain e | e := deliverDue_cases u <;> rw [e]
  · exact hi.nmiEvent
  · exact hi

theorem Inv.ticks {s : State} (h : Inv s) (n : Nat) : ∃ t, ticks n s = .next t ∧ Inv t := by
  induction n generalizing s with
  | zero => exact ⟨s, rfl, h⟩
  | succ n ih =>
    obtain ⟨u, hu, hi⟩ := h.tick1
    rw [Machine.ticks, hu]
    exact ih hi

/-- RESET leads to a legal state from any state with a legal configuration and canonical memories (R300). -/
theorem performReset_inv {s : State} (hv : s.variant.Ok) (hm : MemoriesOk s) : Inv (performReset s) := by
  have hok := hv
  obtain ⟨-, hf, h1, hd, -⟩ := hok
  have hflag : (performReset s).vblankFlag = false := by simp [performReset, State.vblankFlag]
  refine ⟨hv, ⟨show 0 < s.variant.scanlinesPerFrame by omega, show 0 < s.variant.dotsPerLine by omega, ?_, nofun⟩,
    ⟨Nat.zero_le _, fun _ => rfl, nofun, nofun, nofun, nofun, fun h => absurd h (by rw [hflag]; decide), rfl⟩,
    hm.congr rfl rfl rfl rfl rfl rfl, cleared_lineOk⟩
  show false = true ↔ s.variant.hblankDot ≤ 0
  simp only [Bool.false_eq_true, false_iff]
  omega

theorem Inv.exec {i : Instr} {s t : State} (h : Inv s) (hx : exec i s = .next t) : Inv t := by
  obtain hi | ⟨-, hd, rfl⟩ | ⟨-, rfl⟩ | ⟨-, -, rfl⟩ | ⟨n, -, hn⟩ | ⟨-, rfl⟩ := exec_next hx
  · exact h.access hi hx
  · exact h.hblankEffect hd
  · exact h.nmiEvent
  · exact h.scanlineEffect
  · obtain ⟨u, hu, hi⟩ := h.ticks n
    rw [hu] at hn
    cases hn
    exact hi
  · exact performReset_inv h.variantOk h.memories

/-! ### The statements -/

/-- Settles O53: taking the word changes no part of the invariant, and every operation keeps it (`Inv.exec`). -/
theorem stepKeepsInv : Obligations.StepKeepsInv := by
  intro s t h hs
  obtain ⟨w, rest, i, -, -, hx⟩ := step_next hs
  have h' : Inv s.takeNext := ⟨h.variantOk, h.position.congr rfl rfl rfl rfl rfl,
    h.interrupt.congr rfl rfl rfl rfl rfl rfl rfl, h.memories.congr rfl rfl rfl rfl rfl rfl, h.line⟩
  exact h'.exec hx

/-- Settles O49, by induction on the number of dots. -/
theorem ticksNeverBreakTheContract : Obligations.TicksNeverBreakTheContract := fun _ n h => h.ticks n

/-- Settles O51: device start is RESET on power-on memories. -/
theorem deviceStartIsLegal : Obligations.DeviceStartIsLegal := by
  have hm : ∀ v : Variant, MemoriesOk { State.reset with variant := v } := fun v =>
    reset_memoriesOk.congr rfl rfl rfl rfl rfl rfl
  refine ⟨fun v hv => ?_, fun v c hv => ?_, fun v hv => ?_, rfl⟩
  · refine ⟨performReset { State.reset with variant := v }, ?_, performReset_inv hv (hm v), rfl, rfl⟩
    rw [deviceStart, if_neg (not_not.2 hv), if_neg (by decide)]
  · rw [deviceStart, if_pos hv]
  · rw [deviceStart, if_neg (not_not.2 hv), if_pos rfl]

/-- Settles O52: `State.reset` is RESET performed on itself. -/
theorem resetStateIsLegal : Obligations.ResetStateIsLegal :=
  performReset_inv (s := State.reset) (by decide) reset_memoriesOk

end Sys2Proof.Machine
end

section
/-! The line buffers are dead between operations (O57): an outcome with its line buffers forgotten does not depend on the
line buffers of the state it comes from. -/

namespace Sys2Proof.Machine

/-- An outcome with the line buffers of its next state forgotten: what a snapshot keeps (R63). -/
def forgetLine : Result State Fault Refusal → Result State Fault Refusal
  | .next t => .next t.snapshot
  | .fault e => .fault e
  | .refused e => .refused e

theorem forgetLine_eq_next {r : Result State Fault Refusal} {t : State} (h : forgetLine r = .next t) :
    ∃ u, r = .next u ∧ u.snapshot = t := by
  cases r with
  | next u => exact ⟨u, rfl, Host.Outcome.next.inj h⟩
  | fault e => cases h
  | refused e => cases h

theorem forgetLine_eq_refused {r : Result State Fault Refusal} {e : Refusal} (h : forgetLine r = .refused e) :
    r = .refused e := by
  cases r with
  | next u => cases h
  | fault e => cases h
  | refused e => exact h

theorem forgetLine_eq_fault {r : Result State Fault Refusal} {e : Fault} (h : forgetLine r = .fault e) :
    r = .fault e := by
  cases r with
  | next u => cases h
  | fault e => exact h
  | refused e => cases h

/-- What `f` answers, the line buffers forgotten, does not depend on the line buffers it starts from. -/
def LineBlind (f : State → Result State Fault Refusal) : Prop :=
  ∀ (s : State) (l : LineBuffers), forgetLine (f { s with line := l }) = forgetLine (f s)

theorem eq_of_snapshot_eq {s t : State} (h : s.snapshot = t.snapshot) : s = { t with line := s.line } := by
  calc s = { s.snapshot with line := s.line } := rfl
    _ = { t with line := s.line } := by rw [h]; rfl

/-- Two line-blind operations in a row are line-blind. -/
theorem LineBlind.andThen {f g : State → Result State Fault Refusal} (hf : LineBlind f) (hg : LineBlind g) :
    LineBlind fun s => andThen (f s) g := by
  intro s l
  have h := hf s l
  dsimp only
  cases e : f s with
  | next t =>
    rw [e] at h
    obtain ⟨u, hu, hs⟩ := forgetLine_eq_next h
    rw [hu, eq_of_snapshot_eq hs]
    exact hg t u.line
  | fault x =>
    rw [e] at h
    rw [forgetLine_eq_fault h]
  | refused x =>
    rw [e] at h
    rw [forgetLine_eq_refused h]

theorem vramWrite_withLine (a : Nat) (v : Byte) (s : State) (l : LineBuffers) :
    vramWrite a v { s with line := l } = { vramWrite a v s with line := l } := by
  simp only [vramWrite]
  split <;> rfl

theorem vramRead_withLine (a : Nat) (s : State) (l : LineBuffers) :
    vramRead a { s with line := l } = ((vramRead a s).1, { (vramRead a s).2 with line := l }) := by
  simp only [vramRead]
  split <;> rfl

theorem prefetch_withLine (s : State) (l : LineBuffers) :
    State.prefetch { s with line := l } = (s.prefetch.1, { s.prefetch.2 with line := l }) := by
  unfold State.prefetch
  split
  · next h => rw [if_pos (by exact h)]; rfl
  · next h => rw [if_neg (by exact h)]; exact vramRead_withLine _ s l

theorem dmaCopy_withLine (page : Byte) (n : Nat) (s : State) (l : LineBuffers) :
    dmaCopy page n { s with line := l } = { dmaCopy page n s with line := l } := by
  induction n with
  | zero => rfl
  | succ n ih => rw [dmaCopy, ih]; rfl

theorem exec_access_lineBlind {i : Instr} (hi : isAccess i = true) : LineBlind (exec i) := by
  intro s l
  cases i
  case evHblank | evNmi | evScanline | tick | reset => cases hi
  case wrControl0 d => rw [exec_wrControl0, exec_wrControl0]; rfl
  case rdStatus => rw [exec_rdStatus, exec_rdStatus]; rfl
  case wrSpriteData d => rw [exec_wrSpriteData, exec_wrSpriteData]; rfl
  case wrScroll d => rw [exec_wrScroll, exec_wrScroll]; rfl
  case wrAddress d => rw [exec_wrAddress, exec_wrAddress]; rfl
  case wrData d =>
    have e : State.dataAddress { s with line := l } = s.dataAddress := rfl
    rw [exec_wrData, exec_wrData, e, vramWrite_withLine]; rfl
  case rdData => rw [exec_rdData, exec_rdData, prefetch_withLine]; rfl
  case oamDma p =>
    rw [exec_oamDma, exec_oamDma, dmaCopy_withLine]
    generalize dmaCopy p 256 s = u
    rfl
  all_goals rfl

/-- A rendered scanline clears the line buffers first (R177). -/
theorem renderScanline_withLine (y : Nat) (s : State) (l : LineBuffers) :
    renderScanline y { s with line := l } = renderScanline y s := rfl

theorem hblankEffect_withLine (s : State) (l : LineBuffers) :
    (hblankEffect { s with line := l }).snapshot = (hblankEffect s).snapshot := by
  by_cases h : s.scanline < 240
  · rw [hblankEffect_visible s h, hblankEffect_visible _ (by exact h)]
    exact congrArg State.snapshot (renderScanline_withLine s.scanline (hblankStart s) l)
  · rw [hblankEffect_hidden (s := s) (by omega), hblankEffect_hidden (by exact Nat.le_of_not_lt h)]
    rfl

theorem hblankEvent_lineBlind : LineBlind hblankEvent := by
  intro s l
  simp only [hblankEvent]
  split
  · rfl
  · exact congrArg Host.Outcome.next (hblankEffect_withLine s l)

theorem scanlineEvent_lineBlind : LineBlind scanlineEvent := fun _ _ => rfl

theorem nmiEvent_lineBlind : LineBlind fun s => .next (nmiEvent s) := by
  intro s l
  simp only [nmiEvent]
  split <;> rfl

theorem advanceDot_lineBlind : LineBlind advanceDot := by
  intro s l
  simp only [advanceDot]
  split
  · exact scanlineEvent_lineBlind s l
  split
  · exact hblankEvent_lineBlind s l
  · rfl

theorem countDown_lineBlind : LineBlind fun s => .next (countDown s) := by
  intro s l
  simp only [countDown_eq]
  rfl

theorem deliverDue_lineBlind : LineBlind fun s => .next (deliverDue s) := by
  intro s l
  simp only [deliverDue]
  split
  · exact nmiEvent_lineBlind s l
  · rfl

theorem ticks_lineBlind : ∀ n, LineBlind (ticks n)
  | 0 => fun _ _ => rfl
  | n + 1 => ((countDown_lineBlind.andThen advanceDot_lineBlind).andThen deliverDue_lineBlind).andThen (ticks_lineBlind n)

theorem exec_lineBlind (i : Instr) : LineBlind (exec i) := by
  obtain hi | rfl | rfl | rfl | ⟨n, rfl⟩ | rfl := instr_kinds i
  · exact exec_access_lineBlind hi
  · exact hblankEvent_lineBlind
  · exact nmiEvent_lineBlind
  · exact scanlineEvent_lineBlind
  · exact ticks_lineBlind n
  · exact fun _ _ => rfl

/-- Settles O57: every operation is line-blind (`exec_lineBlind`): the rendering and the scanline event clear the buffers
before they use them, and nothing else reads them. -/
theorem transientBuffersAreDead : Obligations.TransientBuffersAreDead := by
  intro i s l
  have h := exec_lineBlind i s l
  refine ⟨fun t ht => ?_, fun r hr => ?_⟩
  · rw [ht] at h
    exact forgetLine_eq_next h
  · rw [hr] at h
    exact forgetLine_eq_refused h

end Sys2Proof.Machine
end

section
/-! The port writes (O7 to O13): bit fields as numbers, then each write's result and frame. -/

namespace Sys2Proof.Machine

/-! ### Bit fields as numbers (R7) -/

theorem bits_zero {w : Nat} (v : BitVec w) (n : Nat) : bits v 0 n = v.setWidth n := by
  apply BitVec.eq_of_getLsbD_eq
  intro i hi
  rw [getLsbD_bits, BitVec.getLsbD_setWidth, Nat.zero_add]

theorem bits_toNat {w : Nat} (v : BitVec w) (lo n : Nat) : (bits v lo n).toNat = v.toNat / 2 ^ lo % 2 ^ n := by
  rw [bits, BitVec.extractLsb'_toNat, Nat.shiftRight_eq_div_pow]

/-- The number after a field is assigned: the part above it, the field, the part below it. -/
theorem setBits_toNat {w n : Nat} (v : BitVec w) (lo : Nat) (x : BitVec n) (h : lo + n ≤ w) : (setBits v lo x).toNat =
    2 ^ lo * (2 ^ n * (v.toNat / 2 ^ (lo + n)) + x.toNat) + v.toNat % 2 ^ lo := by
  apply Nat.eq_of_testBit_eq
  intro i
  rw [Nat.testBit_two_pow_mul_add _ (Nat.mod_lt _ (Nat.two_pow_pos lo)), Nat.testBit_two_pow_mul_add _ x.isLt,
    BitVec.testBit_toNat, getLsbD_setBits]
  by_cases h1 : i < lo
  · rw [if_neg (by omega), if_pos h1, Nat.testBit_mod_two_pow, BitVec.testBit_toNat]
    simp [h1]
  rw [if_neg h1]
  by_cases h2 : i - lo < n
  · rw [if_pos (by omega), if_pos h2, BitVec.testBit_toNat]
    simp [show i < w by omega]
  · rw [if_neg (by omega), if_neg h2, Nat.testBit_div_two_pow, BitVec.testBit_toNat]
    congr 1; omega

theorem State.dataAddress_eq (s : State) : s.dataAddress = s.refreshData.toNat % 16384 := by
  rw [State.dataAddress, bits_zero]
  exact BitVec.toNat_setWidth ..

/-- The auto-increment of the DATA port, modulo 2^15 (R99, R139). -/
theorem advance_toNat (s : State) : (s.refreshData + BitVec.ofNat 15 s.inc).toNat =
    (s.refreshData.toNat + (if s.control0.getLsbD 2 then 32 else 1)) % 32768 := by
  rw [BitVec.toNat_add, BitVec.toNat_ofNat, State.inc, Nat.add_mod_mod]

/-! ### Memory kept, by the fields it is in -/

theorem pixelsKept_of_fb {s t : State} (h : t.fb = s.fb) : PixelsKept s t := fun y x => by rw [State.pixel, State.pixel, h]

theorem memoryKept_of_fields {s t : State} (hn : t.ntRam = s.ntRam) (hp : t.paletteRam = s.paletteRam)
    (ho : t.oam = s.oam) (hf : t.fb = s.fb) : MemoryKept s t :=
  ⟨fun sp a => State.readByte_congr hn hp ho sp a, pixelsKept_of_fb hf⟩

/-! ### The control and cursor ports -/

/-- Settles O7: by its equation `exec_wrControl0`. -/
theorem writeControl0 : Obligations.WriteControl0 := by
  intro d s
  refine ⟨_, exec_wrControl0 d s, rfl, ?_, coarseX_setNtField _ _, coarseY_setNtField _ _, fineY_setNtField _ _,
    fun h => ?_, fun h => ?_, memoryKept_of_fields rfl rfl rfl rfl⟩
  · exact (ntField_setNtField _ _).trans (bits_zero d 2)
  · simp only [h, Bool.false_and, Bool.false_eq_true, if_false, and_self]
  · simp only [h, Bool.true_and, if_true, and_self]

/-- Settles O8: each is one record update. -/
theorem plainPortWrites : Obligations.PlainPortWrites := fun _ _ =>
  ⟨⟨_, rfl, rfl, memoryKept_of_fields rfl rfl rfl rfl⟩, ⟨_, rfl, rfl, rfl, memoryKept_of_fields rfl rfl rfl rfl⟩,
    ⟨_, rfl, rfl, memoryKept_of_fields rfl rfl rfl rfl⟩⟩

/-- Settles O9: `exec_wrSpriteData` in its two cases, the window of `oamWriteAllowed_iff` deciding which. -/
theorem writeSpriteData : Obligations.WriteSpriteData := by
  intro d s
  refine ⟨_, exec_wrSpriteData d s, rfl, fun h => ?_, fun h => ?_, pixelsKept_of_fb rfl⟩
  · have ha := (oamWriteAllowed_iff s).2 h
    simp only [if_pos ha]
    refine ⟨?_, fun sp a hne => ?_, ?_⟩
    · exact s.readByte_writeByte_same .oam s.spriteAddress.toNat d
    · exact (State.readByte_congr rfl rfl rfl sp a).trans (s.readByte_writeByte_ne d hne)
    · rw [BitVec.toNat_add]; rfl
  · have ha : ¬ s.oamWriteAllowed = true := by
      rw [oamWriteAllowed_iff, h.1]
      have := h.2
      simp only [Bool.true_eq_false, false_or]
      omega
    simp only [if_neg ha]
    exact ⟨fun sp a => State.readByte_congr rfl rfl rfl sp a, trivial⟩

/-! ### The scroll and address pairs -/

/-- Settles O10: `exec_wrScroll`, and the fields of the latch by the laws of the four address fields. -/
theorem writeScroll : Obligations.WriteScroll := by
  intro d s
  have hhi : (bits d 3 5).toNat = d.toNat / 8 := by
    have := d.isLt
    rw [bits_toNat]; omega
  have hlo : (bits d 0 3).toNat = d.toNat % 8 := by rw [bits_zero]; exact BitVec.toNat_setWidth ..
  refine ⟨_, exec_wrScroll d s, rfl, ?_, fun h => ?_, fun h => ?_, memoryKept_of_fields rfl rfl rfl rfl⟩
  · dsimp only
    split
    · rw [ntField_setFineY, ntField_setCoarseY]
    · rw [ntField_setCoarseX]
  · simp only [h, Bool.false_eq_true, if_false, coarseX_setCoarseX, coarseY_setCoarseX, fineY_setCoarseX, hhi, hlo, and_self]
  · simp only [h, if_true, coarseY_setFineY, coarseY_setCoarseY, fineY_setFineY, coarseX_setFineY, coarseX_setCoarseY,
      hhi, hlo, and_self]

theorem latchHigh_toNat (v : VAddr) (d : Byte) : (latchHigh v d).toNat = d.toNat % 64 * 256 + v.toNat % 256 := by
  have hv := v.isLt
  rw [latchHigh, setBits_toNat _ _ _ (by decide), setBits_toNat _ _ _ (by decide), bits_toNat]
  have h0 : (0 : BitVec 1).toNat = 0 := rfl
  omega

theorem latchLow_toNat (v : VAddr) (d : Byte) : (latchLow v d).toNat = v.toNat / 256 * 256 + d.toNat := by
  rw [latchLow, setBits_toNat _ _ _ (by decide)]
  omega

/-- Settles O11: `exec_wrAddress`, and the two halves as numbers. -/
theorem writeAddress : Obligations.WriteAddress := by
  intro d s
  refine ⟨_, exec_wrAddress d s, rfl, fun h => ?_, fun h => ?_, memoryKept_of_fields rfl rfl rfl rfl⟩
  · simp only [h, Bool.false_eq_true, if_false, latchHigh_toNat, and_self]
  · simp only [h, if_true, latchLow_toNat, and_self]

/-- The address a pair of ADDRESS writes leaves. -/
def pairAddress (hi lo : Byte) (s : State) : VAddr := latchLow (latchHigh s.refreshLatch hi) lo

theorem pairAddress_toNat (hi lo : Byte) (s : State) : (pairAddress hi lo s).toNat = hi.toNat % 64 * 256 + lo.toNat := by
  rw [pairAddress, latchLow_toNat, latchHigh_toNat]
  omega

/-- The state a pair of ADDRESS writes leaves, from toggle 0. -/
def pairState (hi lo : Byte) (s : State) : State := { s with
  address := lo, dataLatch := lo, refreshLatch := pairAddress hi lo s, refreshData := pairAddress hi lo s }

/-- A pair of ADDRESS writes from toggle 0 (R138). -/
theorem runOps_addressPair (hi lo : Byte) {s : State} (h : s.toggle = false) :
    runOps [.wrAddress hi, .wrAddress lo] s = .next (pairState hi lo s) := by
  simp only [runOps, exec_wrAddress, andThen_of_next, h, Bool.not_false, Bool.not_true, Bool.false_eq_true, if_false, if_true]
  rw [← h]
  rfl

theorem pairState_dataAddress (hi lo : Byte) (s : State) :
    (pairState hi lo s).dataAddress = hi.toNat % 64 * 256 + lo.toNat := by
  have := lo.isLt
  rw [State.dataAddress_eq, pairState, pairAddress_toNat]
  omega

/-- Settles O12, by `runOps_addressPair`. -/
theorem addressPairSetsTheAddress : Obligations.AddressPairSetsTheAddress := by
  intro hi lo s h
  refine ⟨_, runOps_addressPair hi lo h, pairState_dataAddress hi lo s, ?_, rfl, h⟩
  rw [pairState_dataAddress, ← pairAddress_toNat hi lo s]
  rfl

/-! ### The DATA port -/

/-- The bytes of the closed model's array after a pattern write that it takes (R82). -/
theorem chrByte_chrWrite (s : State) (p q : Nat) (v : Byte) (h : s.chrStores = true) :
    (chrWrite p v s).chrByte q = if q = p then v else s.chrByte q := by
  rw [State.chrByte, chrWrite, State.chrByte]
  dsimp only
  rw [if_pos h]
  split
  · next e => rw [e, Cells.lookup_store_same, Option.getD_some]
  · next e => rw [Cells.lookup_store_ne _ _ e]

theorem chrStores_iff (s : State) : s.chrStores = true ↔ s.patternModel = .closedModel ∧ s.variant.chrWritable = true := by
  simp [State.chrStores]

/-- A store into a cell the resolver answers reaches no pattern byte and no collaborator. -/
theorem vramWrite_of_cell {a b : Nat} {sp : Space} {s : State} (v : Byte)
    (h : (resolve s.variant.mirroring a).cell = some (sp, b)) : vramWrite a v s = s.writeByte sp b v := by
  cases hr : resolve s.variant.mirroring a with
  | pattern p => rw [hr] at h; cases h
  | nt bank offset => rw [hr] at h; cases h; exact vramWrite_of_nt v hr
  | palette i => rw [hr] at h; cases h; exact vramWrite_of_palette v hr

/-- Settles O13: the write by what the address resolves to (`vramWrite_of_cell`, `vramWrite_of_pattern`), then the
auto-increment. -/
theorem writeData : Obligations.WriteData := by
  intro d s
  have haddr := s.dataAddress_eq
  have hfb : (vramWrite s.dataAddress d s).fb = s.fb := by rw [vramWrite_only]
  refine ⟨{ (vramWrite s.dataAddress d s).advanceAddress with data := d, dataLatch := d }, rfl, ?_, ?_, ?_, ?_,
    pixelsKept_of_fb hfb⟩
  · simp only [State.advanceAddress]
    rw [vramWrite_only]
  · rw [← advance_toNat]
    simp only [State.advanceAddress]
    rw [vramWrite_only]
    rfl
  · intro sp a h
    rw [← haddr] at h
    rw [vramWrite_of_cell d h]
    exact ⟨(State.readByte_congr rfl rfl rfl sp a).trans (s.readByte_writeByte_same sp a d),
      fun sp' a' hne => (State.readByte_congr rfl rfl rfl sp' a').trans (s.readByte_writeByte_ne d hne),
      s.writeByte_chr sp a d, s.writeByte_patternCalls sp a d⟩
  · intro p h
    rw [← haddr] at h
    rw [vramWrite_of_pattern d h]
    refine ⟨fun sp a => State.readByte_congr rfl rfl rfl sp a, rfl, fun hc q => ?_, fun hc => ?_⟩
    · exact chrByte_chrWrite s p q d ((chrStores_iff s).2 hc)
    · exact if_neg fun hs => hc ((chrStores_iff s).1 hs)

end Sys2Proof.Machine
end

section
/-! The port reads (O14 to O18), the palette side port (O21), OAM_DMA (O22) and the operations that may be issued twice
(O59). -/

namespace Sys2Proof.Machine

/-! ### Reads that change nothing or only flags -/

/-- Settles O14: each of the five reads is `readLatch`. -/
theorem readsOfWriteOnlyPorts : Obligations.ReadsOfWriteOnlyPorts := by
  intro s i hi
  have hx : exec i s = .next { s with reads := s.reads ++ [s.dataLatch] } := by
    simp only [List.mem_cons, List.not_mem_nil, or_false] at hi
    obtain rfl | rfl | rfl | rfl | rfl := hi <;> rfl
  exact ⟨_, hx, rfl, memoryKept_of_fields rfl rfl rfl rfl⟩

/-- The byte of a STATUS read, bit by bit (R142). -/
theorem statusValue_getLsbD (s : State) (b : Nat) :
    s.statusValue.getLsbD b = if b < 5 then s.statusFiller.getLsbD b else s.status.getLsbD b := by
  rw [State.statusValue, BitVec.getLsbD_append]
  by_cases h : b < 5
  · simp only [h, if_true]
  · simp only [h, if_false, getLsbD_bits, Layout.flagsLo, show 5 + (b - 5) = b by omega]
    by_cases h8 : b < 8
    · simp only [show b - 5 < 3 by omega, decide_true, Bool.true_and]
    · rw [BitVec.getLsbD_of_ge s.status b (by omega), Bool.and_false]

theorem statusFiller_getLsbD (s : State) {b : Nat} (h : b < 5) : s.statusFiller.getLsbD b =
    if s.variant.securityValue = 0 then s.dataLatch.getLsbD b else s.variant.securityValue.getLsbD b := by
  rw [State.statusFiller, ite_not]
  split
  · rw [getLsbD_bits, Nat.zero_add, decide_eq_true h, Bool.true_and]
  · rfl

/-- Settles O15: `exec_rdStatus`, the value by `statusValue_getLsbD`, the race window by `inRaceWindow_iff`. -/
theorem readStatus : Obligations.ReadStatus := by
  intro s
  refine ⟨_, _, exec_rdStatus s, rfl, fun b hb => ?_, fun b hb => ?_, ?_, fun b hb => ?_, fun h => ?_, fun h => ?_,
    memoryKept_of_fields rfl rfl rfl rfl⟩
  · rw [statusValue_getLsbD, if_neg (by omega)]
  · rw [statusValue_getLsbD, if_pos hb, statusFiller_getLsbD s hb]
  · exact (getLsbD_setFlag _ _ _ _ (by decide)).trans (if_pos rfl)
  · exact (getLsbD_setFlag _ _ _ _ (by decide)).trans (if_neg (by omega))
  · simp only [(inRaceWindow_iff _ _ _).2 h, Bool.true_or, Bool.not_true, Bool.false_and, if_true, and_self]
  · have hw : inRaceWindow s.variant s.scanline s.dot = false :=
      Bool.eq_false_iff.2 fun hw => h ((inRaceWindow_iff _ _ _).1 hw)
    simp only [hw, Bool.false_or, Bool.not_false, Bool.true_and, Bool.false_eq_true, if_false, and_self]

/-- Settles O16: the read is one record update. -/
theorem readSpriteData : Obligations.ReadSpriteData := fun _ =>
  ⟨_, _, rfl, rfl, rfl, memoryKept_of_fields rfl rfl rfl rfl⟩

/-! ### RD_DATA -/

theorem palMirror_mod_vram (a : Nat) : palMirror (a % 16384) = palMirror a := by
  rw [← palMirror_mod, ← palMirror_mod a]
  congr 1; omega

/-- The nametable cell of an address does not depend on the bits above 11 (R78). -/
theorem ntAddress_mod_vram (m : Mirroring) (a : Nat) : ntAddress m (a % 16384) = ntAddress m a := by
  have h1 : ntSelect (a % 16384) = ntSelect a := by simp only [ntSelect, Layout.bankSize]; omega
  have h2 : ntOffset (a % 16384) = ntOffset a := by simp only [ntOffset, Layout.bankSize]; omega
  rw [ntAddress, ntAddress, h1, h2]

/-- In the closed model the collaborator answers its array (R90). -/
theorem ClosedPattern.patternAnswer {s : State} {b : Nat → Byte} (h : ClosedPattern s b) (k : PatternKind) {p : Nat}
    (hint : BitVec 2) (hp : p < Layout.patternSize) : s.patternAnswer k p hint = b p := by
  rw [State.patternAnswer, h.1]
  exact h.2 p hp

/-- The nametable byte under the address is read through the resolver as well as by `NtRead`. -/
theorem ntRead_dataAddress (s : State) : s.ntRead s.dataAddress =
    s.readByte .nametable (ntAddress s.variant.mirroring s.refreshData.toNat) := by
  rw [State.ntRead, s.dataAddress_eq, ntAddress_mod_vram]

theorem prefetch_palette {s : State} (h : 0x3F00 ≤ s.dataAddress) : s.prefetch = (s.ntRead s.dataAddress, s) := by
  rw [State.prefetch, if_pos (by exact h)]

theorem prefetch_nametable {s : State} (h1 : 0x2000 ≤ s.dataAddress) (h2 : s.dataAddress < 0x3F00) :
    s.prefetch = (s.ntRead s.dataAddress, s) := by
  rw [State.prefetch, if_neg (by exact Nat.not_le.2 h2), vramRead_nametable s h1 h2]

theorem prefetch_pattern {s : State} (h : s.dataAddress < 0x2000) : s.prefetch = chrRead .port s.dataAddress 0 s := by
  have hm : s.dataAddress % 0x4000 = s.dataAddress := Nat.mod_eq_of_lt (by omega)
  have hr : resolve s.variant.mirroring s.dataAddress = .pattern s.dataAddress := by
    obtain ⟨-, e⟩ | ⟨h0, -⟩ | ⟨h0, -⟩ := resolve_cases s.variant.mirroring s.dataAddress
    · rw [e, hm]
    · omega
    · omega
  rw [State.prefetch, if_neg (by simp only [Layout.paletteBase]; omega)]
  simp only [vramRead, hr]

theorem dataReadValue_palette {s : State} (h : 0x3F00 ≤ s.dataAddress) :
    s.dataReadValue = s.readByte .palette (palMirror s.refreshData.toNat) := by
  rw [State.dataReadValue, if_pos (by exact h), State.palRead, s.dataAddress_eq, palMirror_mod_vram]

theorem dataReadValue_buffer {s : State} (h : s.dataAddress < 0x3F00) : s.dataReadValue = s.bufferedData :=
  if_neg (Nat.not_le.2 h)

/-- Settles O17: `exec_rdData` with the value and the prefetch of the region the address lies in. -/
theorem readData : Obligations.ReadData := by
  intro s
  rw [← s.dataAddress_eq]
  refine ⟨_, _, exec_rdData s, rfl, advance_toNat s, fun h => ?_, fun h1 h2 => ?_, fun h => ?_,
    memoryKept_of_fields rfl rfl rfl rfl⟩
  · simp only [prefetch_palette h, ntRead_dataAddress]
    exact ⟨dataReadValue_palette h, trivial, trivial⟩
  · simp only [prefetch_nametable h1 h2, ntRead_dataAddress]
    exact ⟨dataReadValue_buffer h2, trivial, trivial⟩
  · simp only [prefetch_pattern h]
    exact ⟨dataReadValue_buffer (by omega), rfl, fun b hb => hb.patternAnswer _ _ h, rfl⟩

/-! ### A byte through the DATA port -/

/-- Operations performed one after another, cut in two. -/
theorem runOps_append (a b : List Instr) (s : State) : runOps (a ++ b) s = andThen (runOps a s) (runOps b) := by
  induction a generalizing s with
  | nil => rfl
  | cons i a ih =>
    simp only [List.cons_append, runOps]
    cases exec i s with
    | next t => exact ih t
    | fault e => rfl
    | refused e => rfl

theorem runOps_append_of_next {a : List Instr} {s t : State} (b : List Instr) (h : runOps a s = .next t) :
    runOps (a ++ b) s = runOps b t := by
  rw [runOps_append, h]; rfl

/-- What WR_DATA leaves at a nametable address. -/
def State.wroteNametable (d : Byte) (s : State) : State := { s with
  data := d, dataLatch := d, refreshData := s.refreshData + BitVec.ofNat 15 s.inc
  ntRam := Cells.store s.ntRam (ntAddress s.variant.mirroring s.dataAddress) d }

theorem exec_wrData_nametable {s : State} (d : Byte) (h1 : 0x2000 ≤ s.dataAddress) (h2 : s.dataAddress < 0x3F00) :
    exec (.wrData d) s = .next (s.wroteNametable d) := by
  have hm : s.dataAddress % 0x4000 = s.dataAddress := Nat.mod_eq_of_lt (by omega)
  obtain ⟨h, -⟩ | ⟨-, -, e⟩ | ⟨h, -⟩ := vramWrite_cases s.dataAddress d s
  · omega
  · rw [exec_wrData, e]; rfl
  · omega

/-- What RD_DATA leaves at a nametable address. -/
def State.readNametable (s : State) : State := { s with
  bufferedData := s.ntRead s.dataAddress, refreshData := s.refreshData + BitVec.ofNat 15 s.inc
  dataLatch := s.bufferedData, reads := s.reads ++ [s.bufferedData] }

theorem exec_rdData_nametable {s : State} (h1 : 0x2000 ≤ s.dataAddress) (h2 : s.dataAddress < 0x3F00) :
    exec .rdData s = .next s.readNametable := by
  rw [exec_rdData, prefetch_nametable h1 h2, dataReadValue_buffer h2]
  rfl

theorem State.readNametable_dataAddress (s : State) :
    s.readNametable.dataAddress = (s.dataAddress + (if s.control0.getLsbD 2 then 32 else 1)) % 16384 := by
  have e : s.readNametable.refreshData.toNat =
      (s.refreshData.toNat + (if s.control0.getLsbD 2 then 32 else 1)) % 32768 := advance_toNat s
  rw [State.dataAddress_eq, State.dataAddress_eq, e]
  omega

/-- A byte written at a nametable address stands in its cell; the buffer and the returned bytes are as before. -/
theorem runOps_pair_wrData (hi lo x : Byte) {s : State} (ht : s.toggle = false)
    (h1 : 0x2000 ≤ hi.toNat % 64 * 256 + lo.toNat) (h2 : hi.toNat % 64 * 256 + lo.toNat < 0x3F00) :
    runOps ([.wrAddress hi, .wrAddress lo] ++ [.wrData x]) s = .next ((pairState hi lo s).wroteNametable x) := by
  rw [← pairState_dataAddress hi lo s] at h1 h2
  rw [runOps_append_of_next _ (runOps_addressPair hi lo ht)]
  simp only [andThen_of_next, runOps, exec_wrData_nametable x h1 h2]

/-- Two reads from a nametable address on: the buffer, then the addressed byte (R147). -/
theorem runOps_pair_rdData (hi lo : Byte) {s : State} (ht : s.toggle = false)
    (h1 : 0x2000 ≤ hi.toNat % 64 * 256 + lo.toNat)
    (h2 : hi.toNat % 64 * 256 + lo.toNat + (if s.control0.getLsbD 2 then 32 else 1) < 0x3F00) :
    runOps ([.wrAddress hi, .wrAddress lo] ++ [.rdData, .rdData]) s = .next (pairState hi lo s).readNametable.readNametable := by
  have hstep : 0 < (if s.control0.getLsbD 2 then 32 else 1) := by split <;> omega
  have ha := pairState_dataAddress hi lo s
  have ha2 : (pairState hi lo s).readNametable.dataAddress =
      ((pairState hi lo s).dataAddress + (if s.control0.getLsbD 2 then 32 else 1)) % 16384 :=
    (pairState hi lo s).readNametable_dataAddress
  rw [runOps_append_of_next _ (runOps_addressPair hi lo ht)]
  simp only [runOps]
  rw [exec_rdData_nametable (by omega) (by omega), andThen_of_next, exec_rdData_nametable (by omega) (by omega)]
  rfl

theorem State.wroteNametable_toggle (d : Byte) (s : State) : (s.wroteNametable d).toggle = s.toggle := rfl

theorem State.wroteNametable_control0 (d : Byte) (s : State) : (s.wroteNametable d).control0 = s.control0 := rfl

/-- The byte just written is read at its address. -/
theorem State.wroteNametable_ntRead (d : Byte) (s : State) : (s.wroteNametable d).ntRead s.dataAddress = d :=
  s.readByte_writeByte_same .nametable (ntAddress s.variant.mirroring s.dataAddress) d

/-- Settles O18: the write and both reads are nametable accesses; the first read prefetches the stored byte, which the
second returns. -/
theorem dataReadsLagOneBehind : Obligations.DataReadsLagOneBehind := by
  intro s hi lo x ht h1 h2
  have hw := runOps_pair_wrData hi lo x ht h1 (lt_of_le_of_lt (Nat.le_add_right _ _) h2)
  have hr := runOps_pair_rdData hi lo (s := (pairState hi lo s).wroteNametable x) ((State.wroteNametable_toggle ..).trans ht)
    h1 (by rw [State.wroteNametable_control0]; exact h2)
  have hx : (pairState hi lo ((pairState hi lo s).wroteNametable x)).ntRead
      (pairState hi lo ((pairState hi lo s).wroteNametable x)).dataAddress = x := by
    rw [pairState_dataAddress, ← pairState_dataAddress hi lo s]
    exact (pairState hi lo s).wroteNametable_ntRead x
  refine ⟨(pairState hi lo ((pairState hi lo s).wroteNametable x)).readNametable.readNametable, ?_, ?_⟩
  · exact (runOps_append_of_next _ hw).trans hr
  · show s.reads ++ [s.bufferedData] ++ [(pairState hi lo ((pairState hi lo s).wroteNametable x)).ntRead
      (pairState hi lo ((pairState hi lo s).wroteNametable x)).dataAddress] = _
    rw [hx, List.append_assoc]
    rfl

/-! ### The palette side port and the DMA -/

/-- Settles O21: each is one update of its own field. -/
theorem paletteSidePortFrame : Obligations.PaletteSidePortFrame := fun s i d =>
  ⟨⟨_, rfl, rfl, memoryKept_of_fields rfl rfl rfl rfl⟩,
    ⟨_, exec_palWr i d s, rfl, s.writeByte_bytesKeptBut .palette (palMirror i) d, pixelsKept_of_fb rfl⟩⟩

/-- The first `n` bytes of a page stand in OAM from the cursor on (R162). -/
theorem dmaCopy_readByte (page : Byte) (s : State) {n i : Nat} (hn : n ≤ 256) (hi : i < n) :
    (dmaCopy page n s).readByte .oam (dmaTarget s.spriteAddress i) =
      (Cells.lookup s.ext (page.toNat * 256 + i)).getD (Config.extByte (s.draws + i) (page.toNat * 256 + i)) := by
  induction n with
  | zero => omega
  | succ n ih =>
    have hs : dmaCopy page (n + 1) s = (extRead (page.toNat * 0x100 + n) (dmaCopy page n s)).2.writeByte .oam
        (dmaTarget s.spriteAddress n)
        ((Cells.lookup s.ext (page.toNat * 256 + n)).getD (Config.extByte (s.draws + n) (page.toNat * 256 + n))) := by
      rw [dmaCopy, dmaByte, dmaCopy_eq]; rfl
    rw [hs]
    by_cases e : i = n
    · subst e; exact State.readByte_writeByte_same ..
    · have hne : dmaTarget s.spriteAddress i ≠ dmaTarget s.spriteAddress n := by
        simp only [dmaTarget, Layout.oamSize]; omega
      rw [State.readByte_writeByte_ne _ _ (.inr hne)]
      exact ih (by omega) (by omega)

/-- A DMA stores below address 256 of OAM only. -/
theorem dmaCopy_readByte_other (page : Byte) (n : Nat) (s : State) {sp : Space} {a : Nat} (h : sp ≠ .oam ∨ 256 ≤ a) :
    (dmaCopy page n s).readByte sp a = s.readByte sp a := by
  induction n with
  | zero => rfl
  | succ n ih =>
    rw [dmaCopy, dmaByte, State.readByte_writeByte_ne]
    · exact ih
    · refine h.imp_right fun ha => ?_
      simp only [dmaTarget, Layout.oamSize]; omega

/-- Settles O22: the frame by `dmaCopy_eq`, the bytes by induction on how many are copied. -/
theorem oamDmaCopiesThePage : Obligations.OamDmaCopiesThePage := by
  intro page s
  have hfb : (dmaCopy page 256 s).fb = s.fb := by rw [dmaCopy_eq]
  refine ⟨dmaCopy page 256 s, rfl, dmaCopy_eq page 256 s, fun i hi => ?_, fun sp a h => ?_, pixelsKept_of_fb hfb⟩
  · exact dmaCopy_readByte page s (le_refl _) hi
  · exact dmaCopy_readByte_other page 256 s h

/-! ### Issued twice (R91) -/

theorem exec_wrControl0_twice (d : Byte) (s : State) : ∃ t, exec (.wrControl0 d) s = .next t ∧ exec (.wrControl0 d) t = .next t := by
  refine ⟨_, exec_wrControl0 d s, ?_⟩
  have hlatch : setNtField (setNtField s.refreshLatch (ntBaseOf d)) (ntBaseOf d) = setNtField s.refreshLatch (ntBaseOf d) :=
    vaddr_eq_of_fields (by simp) (by simp) (by simp) (by simp)
  rw [exec_wrControl0]
  simp only [hlatch]
  cases d.getLsbD 7 <;> rfl

theorem exec_palWr_twice (j : Nat) (d : Byte) (s : State) : ∃ t, exec (.palWr j d) s = .next t ∧ exec (.palWr j d) t = .next t := by
  refine ⟨_, exec_palWr j d s, ?_⟩
  rw [exec_palWr]
  show Host.Outcome.next { s with paletteRam := Cells.store (Cells.store s.paletteRam (palMirror j) d) (palMirror j) d } = _
  rw [Cells.store_store_same]
  rfl

/-- A known page copied twice leaves OAM as copied once, by the two laws of a copied page. -/
theorem exec_oamDma_twice (page : Byte) (s : State)
    (h : ∀ n, n < 256 → (Cells.lookup s.ext (page.toNat * 256 + n)).isSome = true) :
    ∃ t, exec (.oamDma page) s = .next t ∧ exec (.oamDma page) t = .next { t with draws := t.draws + 256 } := by
  have hv : ∀ i < 256, Cells.lookup s.ext (page.toNat * 256 + i) =
      some ((Cells.lookup s.ext (page.toNat * 256 + i)).getD 0) := fun i hi => by
    obtain ⟨b, hb⟩ := Option.isSome_iff_exists.1 (h i hi)
    rw [hb, Option.getD_some]
  have hext : (dmaCopy page 256 s).ext = s.ext ∧ (dmaCopy page 256 s).spriteAddress = s.spriteAddress := by
    rw [dmaCopy_eq]; exact ⟨rfl, rfl⟩
  refine ⟨dmaCopy page 256 s, rfl, congrArg Host.Outcome.next ?_⟩
  refine dmaCopy_again page _ (fun i => (Cells.lookup s.ext (page.toNat * 256 + i)).getD 0) 256 ?_ ?_
  · rw [hext.1]; exact hv
  · rw [hext.2]; exact dmaCopy_store_fixed page s _ 256 (le_refl _) hv

/-- Settles O59: the writes leave what they wrote, the reads append their byte, and a known page is copied twice as
once. -/
theorem idempotentOperations : Obligations.IdempotentOperations := by
  intro s d j
  refine ⟨fun i hi => ?_, fun i hi => ?_, fun page h => exec_oamDma_twice page s h⟩
  · simp only [List.mem_cons, List.not_mem_nil, or_false] at hi
    obtain rfl | rfl | rfl | rfl | rfl | rfl := hi
    · exact exec_wrControl0_twice d s
    · exact ⟨_, rfl, rfl⟩
    · exact ⟨_, rfl, rfl⟩
    · exact ⟨_, rfl, rfl⟩
    · exact exec_palWr_twice j d s
    · exact ⟨_, rfl, rfl⟩
  · simp only [List.mem_cons, List.not_mem_nil, or_false] at hi
    obtain rfl | rfl | rfl | rfl | rfl | rfl | rfl := hi <;> exact ⟨_, _, rfl, rfl, rfl⟩

end Sys2Proof.Machine
end

section
/-! The resolver (O25, O26), the events (O27 to O32), TICK (O46 to O48), RESET (O50) and the colours (O60). -/

namespace Sys2Proof.Machine

/-! ### The resolver (R73, R74) -/

/-- The physical bank of an address (R74). -/
theorem ntFold_ntSelect (m : Mirroring) (a : Nat) : ntFold m (ntSelect a) = (match m with
    | .none => a / 1024 % 4
    | .fourScreen => a / 1024 % 4
    | .vertical => a / 1024 % 2
    | .horizontal => a / 2048 % 2
    | .high => 1
    | .low => 0) := by
  cases m <;> simp only [ntFold, ntSelect, Layout.bankSize] <;> omega

theorem resolve_add_vram (m : Mirroring) (a : Nat) : resolve m (a + 0x4000) = resolve m a := by
  have h : (a + 0x4000) % 0x4000 = a % 0x4000 := Nat.add_mod_right _ _
  have hs : ntSelect (a + 0x4000) = ntSelect a := by simp only [ntSelect, Layout.bankSize]; omega
  have ho : ntOffset (a + 0x4000) = ntOffset a := by simp only [ntOffset, Layout.bankSize]; omega
  have hp : palMirror (a + 0x4000) = palMirror a := by
    have e : (a + 0x4000) % 32 = a % 32 := by omega
    rw [← palMirror_mod, e, palMirror_mod]
  simp only [resolve, Layout.vramSize, h, hs, ho, hp]

/-- The nametable cell repeats 0x1000 higher: bits 13:12 are not read (R75, R78). -/
theorem ntAddress_add_fold (m : Mirroring) (a : Nat) : ntAddress m (a + 0x1000) = ntAddress m a := by
  have hs : ntSelect (a + 0x1000) = ntSelect a := by simp only [ntSelect, Layout.bankSize]; omega
  have ho : ntOffset (a + 0x1000) = ntOffset a := by simp only [ntOffset, Layout.bankSize]; omega
  rw [ntAddress, ntAddress, hs, ho]

theorem resolve_nametable (m : Mirroring) {a : Nat} (h1 : 0x2000 ≤ a % 0x4000) (h2 : a % 0x4000 < 0x3F00) :
    resolve m a = .nt (ntFold m (ntSelect a)) (ntOffset a) := by
  obtain ⟨h, -⟩ | ⟨-, -, e⟩ | ⟨h, -⟩ := resolve_cases m a
  · omega
  · exact e
  · omega

/-- Settles O25: the three regions of `resolve_cases`, the bank by `ntFold_ntSelect`; neither the mask nor the bank reads
the bits the folds change. -/
theorem nametablesMirrorAt3000 : Obligations.NametablesMirrorAt3000 := by
  intro m a
  refine ⟨fun h => ?_, fun h => ?_, ⟨_, rfl, fun h1 h2 => ?_, ?_⟩, fun h1 h2 => ?_, resolve_add_vram m a,
    fun _ _ => ntAddress_add_fold m a⟩
  · obtain ⟨-, e⟩ | ⟨h0, -⟩ | ⟨h0, -⟩ := resolve_cases m a
    · exact e
    · omega
    · omega
  · obtain ⟨h0, -⟩ | ⟨-, h0, -⟩ | ⟨-, e⟩ := resolve_cases m a
    · omega
    · omega
    · rw [e, palMirror_mod]
  · rw [resolve_nametable m h1 h2, ntFold_ntSelect]; rfl
  · rw [ntAddress, ntKey, ntFold_ntSelect]; rfl
  · have hs : ntSelect (a + 0x1000) = ntSelect a := by simp only [ntSelect, Layout.bankSize]; omega
    have ho : ntOffset (a + 0x1000) = ntOffset a := by simp only [ntOffset, Layout.bankSize]; omega
    rw [resolve_nametable m (a := a + 0x1000) (by omega) (by omega), resolve_nametable m (by omega) (by omega), hs, ho]

/-- Settles O26: a key is its bank and its offset, so two keys are equal exactly when both are. -/
theorem nametableFoldSharing : Obligations.NametableFoldSharing := by
  intro m a b
  simp only [ntAddress, ntKey, ntFold_ntSelect, ntOffset, Layout.bankSize]
  cases m <;> simp only [and_true] <;> omega

/-! ### The events -/

/-- Settles O27: the two cases of `nmiEvent`. -/
theorem nmiEventDeliversOnce : Obligations.NmiEvent := by
  intro s
  refine ⟨fun h => ⟨s.deliverNmi, ?_, rfl, memoryKept_of_fields rfl rfl rfl rfl⟩, fun h => ?_⟩
  · simp only [exec, execEvNmi, nmiEvent, h, if_true]
  · simp only [exec, execEvNmi, nmiEvent, h, Bool.false_eq_true, if_false]

/-- EV_SCANLINE completes when the contract holds (R172). -/
theorem exec_evScanline {s : State} (h : s.hblankDone = true) : exec .evScanline s = .next (scanlineEffect s) :=
  if_pos h

/-- A scanline event stores nothing. -/
theorem scanlineEffect_memoryKept (s : State) : MemoryKept s (scanlineEffect s) := by
  have hf := scanlineEffect_eventOnly s
  unfold EventOnly at hf
  obtain ⟨-, -, -, -, hfb⟩ := scanlineEffect_rest s
  exact memoryKept_of_fields (by rw [hf]) (by rw [hf]) (by rw [hf]) hfb

/-- Settles O28: the event is the plain move, `advanceScanline_eq`. -/
theorem scanlineEventAdvances : Obligations.ScanlineEventAdvances := by
  intro s hok hd hv hp
  obtain ⟨h240, hlast, -⟩ := hok
  have hn : s.nextScanline ≠ s.variant.vblankFirstScanline ∧ s.nextScanline + 1 ≠ s.variant.scanlinesPerFrame := by
    unfold State.nextScanline
    split <;> omega
  have hk := scanlineEffect_memoryKept s
  have e := (scanlineEffect_plain hn.1 hn.2).trans (advanceScanline_eq s)
  refine ⟨_, exec_evScanline hd, ?_, fun h => ?_, fun h => ?_, hk⟩
  · rw [e]
  · rw [e]
    simp only [State.nextScanline, h, true_and, if_true]
    rfl
  · rw [e]
    simp only [State.nextScanline, h, false_and, if_false, and_self]

theorem nextScanline_succ {s : State} (h : s.scanline + 1 < s.variant.scanlinesPerFrame) : s.nextScanline = s.scanline + 1 :=
  if_neg (Nat.ne_of_lt h)

/-- Settles O29: the move, then `enterVblank_eq`. -/
theorem vblankEntry : Obligations.VblankEntry := by
  intro s hok hd hv
  obtain ⟨h240, hlast, -⟩ := hok
  have hn : s.nextScanline = s.variant.vblankFirstScanline := by rw [nextScanline_succ (by omega), hv]
  have hno : ¬ s.scanline + 1 = s.variant.scanlinesPerFrame := by omega
  have hk := scanlineEffect_memoryKept s
  have e := scanlineEffect_vblank hn (by omega)
  rw [enterVblank_eq, advanceScanline_eq] at e
  refine ⟨_, exec_evScanline hd, ?_, ?_, fun b hb => ?_, fun h => ?_, fun h => ?_, hk⟩
  · rw [e]
    simp only [hn, hno, false_and, if_false, List.append_assoc, List.singleton_append]
  · rw [e]; exact (getLsbD_setFlag _ _ _ _ (by decide)).trans (if_pos rfl)
  · rw [e]; exact (getLsbD_setFlag _ _ _ _ (by decide)).trans (if_neg (by omega))
  · rw [e]; exact ⟨if_pos h, if_pos h⟩
  · rw [e]; exact ⟨if_neg h, if_neg h⟩

/-- Settles O30: the move, then PRERENDER entry. -/
theorem prerenderEntry : Obligations.PrerenderEntry := by
  intro s hok hd hp
  obtain ⟨h240, hlast, -⟩ := hok
  have hn : s.nextScanline = s.scanline + 1 := nextScanline_succ (by omega)
  have hno : ¬ s.scanline + 1 = s.variant.scanlinesPerFrame := by omega
  have hk := scanlineEffect_memoryKept s
  have e := scanlineEffect_prerender (s := s) (by omega) (by omega)
  rw [advanceScanline_eq] at e
  refine ⟨_, exec_evScanline hd, ?_, fun b hb => ?_, fun b hb => ?_, hk⟩
  · rw [e]
    simp only [hn, hno, false_and, if_false, enterPrerender, State.emit, State.disarmNmi, State.clearFlags,
      List.append_assoc, List.singleton_append]
  · rw [e]
    refine (getLsbD_setBits _ _ _ _).trans ?_
    split
    · simp
    · next h => exact BitVec.getLsbD_of_ge _ _ (by simp only [Layout.flagsLo] at h; omega)
  · rw [e]
    exact (getLsbD_setBits _ _ _ _).trans (if_neg (by simp only [Layout.flagsLo]; omega))

/-- Settles O31: each event checks `hblank_done`. -/
theorem brokenContractIsRefused : Obligations.BrokenContractIsRefused := fun _ =>
  ⟨fun h => if_pos h, fun h => if_neg (by rw [h]; decide)⟩

/-- Settles O32: off screen the event is its start; in_vblank is the phase (`phase_eq_vblank`). -/
theorem hblankOffScreen : Obligations.HblankOffScreen := by
  intro s hok hd hl
  refine ⟨hblankStart s, ?_, ?_, memoryKept_of_fields rfl rfl rfl rfl⟩
  · rw [exec_evHblank s hd, hblankEffect_hidden hl]
  · rw [← decide_eq_decide.2 (phase_eq_vblank s hok)]
    rfl

/-! ### TICK (R175) -/

theorem andThen_assoc (r : Result State Fault Refusal) (f g : State → Result State Fault Refusal) :
    andThen (andThen r f) g = andThen r fun s => andThen (f s) g := by
  cases r <;> rfl

theorem andThen_next_self (r : Result State Fault Refusal) : andThen r .next = r := by
  cases r <;> rfl

theorem ticks_add (m n : Nat) (s : State) : ticks (m + n) s = andThen (ticks m s) (ticks n) := by
  induction m generalizing s with
  | zero => rw [Nat.zero_add]; rfl
  | succ m ih =>
    rw [Nat.succ_add, ticks, ticks, andThen_assoc]
    congr 1
    funext u
    exact ih u

/-- Settles O46, by `ticks_add`. -/
theorem ticksAddUp : Obligations.TicksAddUp := by
  intro s m n
  refine ⟨rfl, (ticks_add m n s).trans ?_⟩
  show _ = andThen (ticks m s) fun u => andThen (ticks n u) .next
  simp only [andThen_next_self]

theorem exec_tick_one (s : State) : exec (.tick 1) s = tick1 s := andThen_next_self (tick1 s)

/-- No event is due in the next `n` dots: the stretch before HBLANK_DOT, or from it to the last dot of the line. -/
def QuietFor (n : Nat) (s : State) : Prop :=
  (s.dot + n < s.variant.hblankDot ∧ s.variant.hblankDot < s.variant.dotsPerLine) ∨
    (s.variant.hblankDot ≤ s.dot ∧ s.dot + n < s.variant.dotsPerLine)

theorem QuietFor.next {n : Nat} {s t : State} (h : QuietFor (n + 1) s) (hv : t.variant = s.variant)
    (hd : t.dot = s.dot + 1) : QuietFor n t := by
  unfold QuietFor at *
  rw [hv, hd]
  omega

/-- On a quiet dot only the dot moves and the timer counts; then the NMI is delivered if it is due. -/
theorem tick1_quiet {n : Nat} {s : State} (h : QuietFor (n + 1) s) : tick1 s =
    .next (deliverDue { s with dot := s.dot + 1, nmiTimer := if s.nmiArmed then s.nmiTimer - 1 else s.nmiTimer }) := by
  have h1 : s.dot + 1 ≠ s.variant.dotsPerLine := by unfold QuietFor at h; omega
  have h2 : s.dot + 1 ≠ s.variant.hblankDot := by unfold QuietFor at h; omega
  rw [tick1, countDown_eq, advanceDot, if_neg (by exact h1), if_neg (by exact h2), andThen_of_next]

theorem tick1_idle {n : Nat} {s : State} (h : QuietFor (n + 1) s) (ha : s.nmiArmed = false) :
    tick1 s = .next { s with dot := s.dot + 1 } := by
  rw [tick1_quiet h]
  simp [deliverDue, ha]

theorem tick1_counts {n : Nat} {s : State} (h : QuietFor (n + 1) s) (ha : s.nmiArmed = true) (ht : 1 < s.nmiTimer) :
    tick1 s = .next { s with dot := s.dot + 1, nmiTimer := s.nmiTimer - 1 } := by
  have h0 : s.nmiTimer - 1 ≠ 0 := by omega
  rw [tick1_quiet h]
  simp [deliverDue, ha, h0]

theorem tick1_delivers {n : Nat} {s : State} (h : QuietFor (n + 1) s) (ha : s.nmiArmed = true) (ht : s.nmiTimer ≤ 1) :
    tick1 s = .next { s with dot := s.dot + 1, nmiTimer := 0, nmiArmed := false, outputs := s.outputs ++ [.nmi] } := by
  rw [tick1_quiet h]
  simp [deliverDue, nmiEvent, State.deliverNmi, State.disarmNmi, State.emit, ha, ht]

theorem ticks_succ_of_next {n : Nat} {s t : State} (h : tick1 s = .next t) : ticks (n + 1) s = ticks n t := by
  rw [ticks, h]; rfl

theorem ticks_idle {n : Nat} {s : State} (h : QuietFor n s) (ha : s.nmiArmed = false) :
    ticks n s = .next { s with dot := s.dot + n } := by
  induction n generalizing s with
  | zero => rfl
  | succ n ih =>
    rw [ticks_succ_of_next (tick1_idle h ha)]
    refine (ih (by exact h.next rfl rfl) (by exact ha)).trans ?_
    simp [Nat.add_assoc, Nat.add_comm 1]

theorem ticks_counts {n : Nat} {s : State} (h : QuietFor n s) (ha : s.nmiArmed = true) (ht : n < s.nmiTimer) :
    ticks n s = .next { s with dot := s.dot + n, nmiTimer := s.nmiTimer - n } := by
  induction n generalizing s with
  | zero => rfl
  | succ n ih =>
    rw [ticks_succ_of_next (tick1_counts h ha (by omega))]
    refine (ih (by exact h.next rfl rfl) (by exact ha) (by exact Nat.lt_sub_of_add_lt ht)).trans ?_
    simp [Nat.add_assoc, Nat.add_comm 1, Nat.sub_sub]

theorem ticks_delivers {n : Nat} {s : State} (h : QuietFor n s) (ha : s.nmiArmed = true) (h0 : 0 < n)
    (ht : s.nmiTimer ≤ n) : ticks n s = .next { s with
      dot := s.dot + n, nmiTimer := 0, nmiArmed := false, outputs := s.outputs ++ [.nmi] } := by
  induction n generalizing s with
  | zero => omega
  | succ n ih =>
    by_cases h1 : s.nmiTimer ≤ 1
    · rw [ticks_succ_of_next (tick1_delivers h ha h1)]
      refine (ticks_idle (by exact h.next rfl rfl) (by rfl)).trans ?_
      simp [Nat.add_assoc, Nat.add_comm 1]
    · rw [ticks_succ_of_next (tick1_counts h ha (by omega))]
      refine (ih (by exact h.next rfl rfl) (by exact ha) (by omega) (by exact Nat.sub_le_of_le_add ht)).trans ?_
      simp [Nat.add_assoc, Nat.add_comm 1]

/-- Settles O47: the three stretches of the countdown, each by induction on the dots. -/
theorem ticksCountDownToTheNmi : Obligations.TicksCountDownToTheNmi := fun _ _ h =>
  ⟨fun ha => ⟨_, ticks_idle h ha, rfl, memoryKept_of_fields rfl rfl rfl rfl⟩,
    fun ha ht => ⟨_, ticks_counts h ha ht, rfl, memoryKept_of_fields rfl rfl rfl rfl⟩,
    fun ha h0 ht => ⟨_, ticks_delivers h ha h0 ht, rfl, memoryKept_of_fields rfl rfl rfl rfl⟩⟩

/-- After the event of a dot, EV_NMI follows where an NMI is due. -/
theorem next_deliverDue (t : State) : Host.Outcome.next (deliverDue t) =
    if t.nmiArmed = true ∧ t.nmiTimer = 0 then exec .evNmi t else .next t := by
  simp only [deliverDue, Bool.and_eq_true, decide_eq_true_iff]
  split <;> rfl

/-- Settles O48: the event of the dot is performed on the state that has counted down, and `next_deliverDue` says when
EV_NMI follows. -/
theorem tickPerformsTheEventDue : Obligations.TickPerformsTheEventDue := by
  intro s c hlt hc
  have hcount : countDown s = c := (countDown_eq s).trans hc.symm
  have hcv : c.variant = s.variant := by rw [hc]
  have hcd : c.dot = s.dot := by rw [hc]
  have hch : c.hblankDone = s.hblankDone := by rw [hc]
  simp only [exec_tick_one, tick1, hcount, advanceDot, hcv, hcd]
  refine ⟨fun h => ?_, fun h => ?_⟩
  · rw [if_neg (by omega), if_pos h, hblankEvent, hch]
    refine ⟨fun hd => ⟨hblankEffect c, exec_evHblank c (hch.trans hd), ?_⟩, fun hd => ?_⟩
    · rw [hd]; exact next_deliverDue _
    · rw [hd]; rfl
  · rw [if_pos h, scanlineEvent, hch]
    refine ⟨fun hd => ⟨scanlineEffect c, exec_evScanline (hch.trans hd), ?_⟩, fun hd => ?_⟩
    · rw [hd]; exact next_deliverDue _
    · rw [hd]; rfl

/-! ### RESET and the colours -/

/-- Settles O50: RESET is one record update. -/
theorem resetLeaves : Obligations.ResetLeaves := by
  intro s
  refine ⟨performReset s, rfl, fun p => ?_, rfl, rfl, rfl, rfl, rfl, rfl, rfl, rfl, rfl, rfl, rfl, rfl, rfl, rfl, rfl, rfl,
    rfl, rfl, rfl, rfl, rfl, rfl, rfl, memoryKept_of_fields rfl rfl rfl rfl⟩
  unfold State.reg
  split <;> rfl

/-- Only bits 5:0 of a palette byte select (R262). -/
theorem bits_and_low6 (c : Byte) : bits (c &&& 0x3F) 0 6 = bits c 0 6 := by
  revert c; decide

/-- Settles O60: `colorTable` reads the palette byte through its low six bits. -/
theorem colourTableLaws : Obligations.ColourTableLaws := by
  refine ⟨fun v e m c => ⟨?_, fun h => ?_, fun h => ?_, fun rgb => if_pos ⟨rfl, rfl⟩⟩, fun s i => rfl⟩
  · simp only [colorTable, bits_and_low6]
  · simp only [colorTable, h, bits_zero]
  · simp only [colorTable, h, bits_zero]

end Sys2Proof.Machine
end

section
/-! The background of a line: what a column fetches (O36), where its pixels land (O37), where it is transparent (O38). -/

namespace Sys2Proof.Machine

/-! ### What a fetch leaves -/

theorem FetchOnly.ntRead {s t : State} (h : FetchOnly s t) (a : Nat) : t.ntRead a = s.ntRead a := by
  unfold FetchOnly at h; rw [h]; rfl

theorem FetchOnly.tilePage {s t : State} (h : FetchOnly s t) : t.tilePage = s.tilePage := by
  unfold FetchOnly at h; rw [h]; rfl

theorem FetchOnly.closedPattern {s t : State} (h : FetchOnly s t) {b : Nat → Byte} (hb : ClosedPattern s b) :
    ClosedPattern t b := by
  unfold FetchOnly at h; rw [h]; exact hb

/-! ### The columns of a line -/

theorem screenColumn_lt (v : VAddr) (col : Nat) : (screenColumn v col).1 < 4 ∧ (screenColumn v col).2 < 32 := by
  have hn := (ntField v).isLt
  refine ⟨?_, Nat.mod_lt _ (by decide)⟩
  rw [screenColumn]
  dsimp only
  split <;> omega

/-- The coarse-x walk of a line is at the column's place on the screen (R208). -/
theorem columnWalk_eq_screenColumn (v : VAddr) {col : Nat} (h : col < 33) :
    columnWalk (coarseX v).toNat (ntField v).toNat col = ((screenColumn v col).2, (screenColumn v col).1) := by
  have hx := (coarseX v).isLt
  have hn := (ntField v).isLt
  by_cases hc : (coarseX v).toNat + col < 32
  · rw [columnWalk_low _ _ _ hc, screenColumn, if_pos hc, Nat.mod_eq_of_lt hc]
  · rw [columnWalk_high _ _ _ hx hn (by omega) (by omega), screenColumn, if_neg hc]
    exact Prod.ext (by show _ = (_ + _) % 32; omega) rfl

/-- Column `col` of a line is fetched at its place on the screen, in a state that differs by fetches only. -/
theorem fetchLine_column (s : State) {col : Nat} (h : col < 33) : ∃ t, FetchOnly s t ∧
    (fetchLine s).1[col]? = some (fetchColumn (fineY s.refreshData).toNat (coarseY s.refreshData).toNat
      (screenColumn s.refreshData col).1 (screenColumn s.refreshData col).2 t).1 := by
  obtain ⟨t, hf, ht⟩ := fetchColumns_get (fineY s.refreshData).toNat (coarseY s.refreshData).toNat 33
    (ntField s.refreshData).toNat (coarseX s.refreshData).toNat s col h
  rw [columnWalk_eq_screenColumn _ h] at ht
  exact ⟨t, hf, ht⟩

theorem patternAddress_tilePage (s : State) (tile row : Nat) : patternAddress s.tilePage tile row =
    (if s.control0.getLsbD 4 then 0x1000 else 0) + tile * 16 + row := by
  show (s.control0.getLsbD 4).toNat * 0x1000 + tile * 16 + row = _
  cases s.control0.getLsbD 4 <;> rfl

/-- A tile row lies in pattern space, and so does its plane 1. -/
theorem tileRow_lt (page : Bool) (tile : Byte) (row : BitVec 3) :
    (if page then 0x1000 else 0) + tile.toNat * 16 + row.toNat + 8 < Layout.patternSize := by
  have ht := tile.isLt
  have hr := row.isLt
  show _ < 0x2000
  split <;> omega

theorem attributeGroup_toNat (a : Byte) (cy cx : Nat) : (attributeGroup a cy cx).toNat =
    a.toNat / 2 ^ (cy / 2 % 2 * 4 + cx / 2 % 2 * 2) % 4 := bits_toNat _ _ _

/-- Settles O36: by `fetchColumn_eq` at the place of the column; the fetches before it change no byte it reads. -/
theorem columnFetchesItsTile : Obligations.ColumnFetchesItsTile := by
  intro s col hcol
  obtain ⟨t, hf, hc⟩ := fetchLine_column s hcol
  obtain ⟨hnt, hcx⟩ := screenColumn_lt s.refreshData col
  obtain ⟨c, he, hn, ha, hg, h0, h1, -, -⟩ := fetchColumn_eq (fineY s.refreshData).toNat (coarseY s.refreshData).toNat
    (screenColumn s.refreshData col).1 (screenColumn s.refreshData col).2 t hnt (coarseY s.refreshData).isLt hcx
  rw [he] at hc
  rw [hf.tilePage, patternAddress_tilePage] at h0 h1
  have hlt := tileRow_lt (s.control0.getLsbD 4) c.ntByte (fineY s.refreshData)
  refine ⟨c, hc, _, _, _, rfl, rfl, rfl, hn.trans (hf.ntRead _), ha.trans (hf.ntRead _), ?_, fun b hb => ⟨?_, ?_⟩⟩
  · rw [hg]; exact attributeGroup_toNat _ _ _
  · rw [h0, (hf.closedPattern hb).patternAnswer _ _ (by omega)]
  · exact h1.trans (((hf.trans (chrRead_fetchOnly _ _ _ _)).closedPattern hb).patternAnswer _ _ hlt)

/-! ### The pixels of a line -/

theorem bgLine_enabled {s : State} (h : s.bgEn = true) : (bgLine s).line = s.backgroundBuffers (fetchLine s).1 := by
  rw [bgLine, if_pos h]

theorem bgLine_disabled {s : State} (h : s.bgEn = false) : bgLine s = { s with line := s.line.noBackground } := by
  rw [bgLine, h]; rfl

theorem Column.pixels_getElem (c : Column) {b : Nat} (h : b < 8) : c.pixels[b]? = some (planePixel c.plane0 c.plane1 (7 - b)) := by
  simp [Column.pixels, h]

theorem Column.groups_getElem (c : Column) {b : Nat} (h : b < 8) : c.groups[b]? = some c.group := by
  rw [Column.groups, List.getElem?_replicate, if_pos h]

/-- Settles O37: the screen is the stream of the columns' pixels from `x_fine` on, eight of each column. -/
theorem fineScrollPlacesPixels : Obligations.FineScrollPlacesPixels := by
  intro s hen
  obtain ⟨hp, hg, -⟩ := bgLine_lengths s
  refine ⟨hp, hg, fun x hx h256 => ?_⟩
  have hfine := s.xFine.isLt
  have hb : (x + s.xFine.toNat) % 8 < 8 := Nat.mod_lt _ (by decide)
  have hcol : (x + s.xFine.toNat) / 8 < (fetchLine s).1.length := by rw [fetchLine_length]; show _ < 33; omega
  obtain ⟨c, hc⟩ : ∃ c, (fetchLine s).1[(x + s.xFine.toNat) / 8]? = some c := ⟨_, List.getElem?_eq_getElem hcol⟩
  have hpix : (bgLine s).line.bgPix[x]? = some (planePixel c.plane0 c.plane1 (7 - (x + s.xFine.toNat) % 8)) := by
    rw [bgLine_enabled hen, State.backgroundBuffers]
    rw [clipBackground_getElem _ _ _ hx, toScreen_getElem _ _ _ h256, flatMap_eight_getElem _ Column.length_pixels, hc]
    exact c.pixels_getElem hb
  have hgroup : (bgLine s).line.bgGroup[x]? = some c.group := by
    rw [bgLine_enabled hen, State.backgroundBuffers]
    rw [toScreen_getElem _ _ _ h256, flatMap_eight_getElem _ Column.length_groups, hc]
    exact c.groups_getElem hb
  rw [List.getD_eq_getElem?_getD, hpix, List.getD_eq_getElem?_getD, hgroup]
  exact ⟨c, hc, planePixel_toNat _ _ _, rfl⟩

/-- A background pixel is opaque exactly where its colour index is not 0 (R211). -/
theorem bgOpaque_getD (s : State) (x : Nat) :
    (bgLine s).line.bgOpaque.getD x false = ((bgLine s).line.bgPix.getD x 0 != 0) := by
  obtain ⟨-, -, h⟩ := bgLine_lengths s
  rw [h]
  exact List.getD_map _ 0 (· != (0 : BitVec 2))

/-- A disabled layer and clipped columns are transparent (R210, R213). -/
theorem bgPix_transparent (s : State) (x : Nat) (h : s.bgEn = false ∨ (s.bgL8 = false ∧ x < 8)) :
    (bgLine s).line.bgPix.getD x 0 = 0 := by
  cases hen : s.bgEn with
  | false =>
    rw [bgLine_disabled hen]
    exact List.getElem?_getD_replicate_default_eq _ _ _
  | true =>
    obtain ⟨hl8, hx⟩ := h.resolve_left (by simp [hen])
    rw [bgLine_enabled hen, State.backgroundBuffers, State.clipBackground, hl8]
    rw [List.getD_eq_getElem?_getD]
    show (List.replicate 8 0 ++ _)[x]?.getD 0 = _
    rw [List.getElem?_append_left (by rwa [List.length_replicate])]
    exact List.getElem?_getD_replicate_default_eq _ _ _

/-- Settles O38: opacity and index follow the colour index, which is 0 in a disabled layer and in clipped columns. -/
theorem transparentBackground : Obligations.TransparentBackground := by
  intro s x
  refine ⟨fun h => ?_, fun h => ?_, ?_⟩
  · have hp := bgPix_transparent s x h
    refine ⟨hp, ?_, if_pos hp⟩
    rw [bgOpaque_getD, hp]; rfl
  · rw [bgLine_disabled h]
  · rw [bgOpaque_getD, bne_iff_ne]

end Sys2Proof.Machine
end

section
/-! The sprites of a line: claims, priority and composited indices (O42 to O44). -/

namespace Sys2Proof.Machine

/-! ### Pixels of a slot -/

theorem planePixel_ne_zero (p0 p1 : Byte) (b : Nat) : planePixel p0 p1 b ≠ 0 ↔ p0.getLsbD b = true ∨ p1.getLsbD b = true := by
  unfold planePixel
  cases p1.getLsbD b <;> cases p0.getLsbD b <;> decide

/-- A slot's sprite shows at `x` exactly where one of its planes has the bit of that column (R241). -/
theorem SpriteSlot.pixel_ne_zero (k : SpriteSlot) (x : Nat) : k.pixel x ≠ 0 ↔ k.x.toNat ≤ x ∧ x ≤ k.x.toNat + 7 ∧
    (k.p0.getLsbD (k.x.toNat + 7 - x) = true ∨ k.p1.getLsbD (k.x.toNat + 7 - x) = true) := by
  rw [SpriteSlot.pixel]
  split
  · next h =>
    have hb : 7 - (x - k.x.toNat) = k.x.toNat + 7 - x := by omega
    rw [planePixel_ne_zero, hb]
    exact ⟨fun hp => ⟨h.1, h.2, hp⟩, fun hp => hp.2.2⟩
  · next h => exact ⟨fun hp => absurd rfl hp, fun hp => absurd ⟨hp.1, hp.2.1⟩ h⟩

theorem SpriteSlot.pixel_toNat (k : SpriteSlot) {dx : Nat} (h : dx < 8) : (k.pixel (k.x.toNat + dx)).toNat =
    2 * (k.p1.getLsbD (7 - dx)).toNat + (k.p0.getLsbD (7 - dx)).toNat := by
  rw [SpriteSlot.pixel, if_pos (by omega), planePixel_toNat, Nat.add_sub_cancel_left]

theorem SpriteSlot.index_toNat (k : SpriteSlot) (x : Nat) :
    (k.index x).toNat = 16 + k.attr.toNat % 4 * 4 + (k.pixel x).toNat := by
  have hpal : (bits k.attr Layout.palLo 2).toNat = k.attr.toNat % 4 := by
    rw [bits_toNat]; exact congrArg (· % 4) (Nat.div_one _)
  have hcolour := (k.pixel x).isLt
  have hlt : k.attr.toNat % 4 < 2 ^ 2 := Nat.mod_lt _ (by decide)
  rw [SpriteSlot.index, BitVec.toNat_append, BitVec.toNat_append, hpal, ← Nat.shiftLeft_add_eq_or_of_lt hlt,
    ← Nat.shiftLeft_add_eq_or_of_lt hcolour, Nat.shiftLeft_eq, Nat.shiftLeft_eq]
  show (1 * 4 + _) * 4 + _ = _
  omega

theorem LineBuffers.bgIndex_toNat (l : LineBuffers) (x : Nat) : (l.bgIndex x).toNat =
    if l.bgPix.getD x 0 = 0 then 0 else (l.bgGroup.getD x 0).toNat * 4 + (l.bgPix.getD x 0).toNat := by
  unfold LineBuffers.bgIndex
  split
  · rfl
  · generalize l.bgPix.getD x 0 = p
    generalize l.bgGroup.getD x 0 = g
    revert p g; decide

/-! ### Claims -/

/-- The test of the claim at `x`: an opaque pixel that is not clipped (R243, R244). -/
theorem claims_iff (s : State) (x : Nat) (k : SpriteSlot) : (k.pixel x != 0 && !s.spriteClipped x) = true ↔
    k.pixel x ≠ 0 ∧ (s.control1.getLsbD 2 = true ∨ 8 ≤ x) := by
  rw [Bool.and_eq_true, bne_iff_ne]
  refine and_congr_right fun _ => ?_
  show (!(!s.control1.getLsbD 2 && decide (x < 8))) = true ↔ _
  cases s.control1.getLsbD 2 <;> simp

/-- The claimant is the first slot that passes the test (R241). -/
theorem claimant_eq_some_iff (s : State) (x : Nat) (k : SpriteSlot) : s.claimant x = some k ↔
    ∃ before rest, s.line.sprites = before ++ k :: rest ∧
      (k.pixel x ≠ 0 ∧ (s.control1.getLsbD 2 = true ∨ 8 ≤ x)) ∧
      ∀ j ∈ before, ¬ (j.pixel x ≠ 0 ∧ (s.control1.getLsbD 2 = true ∨ 8 ≤ x)) := by
  simp only [State.claimant, List.find?_eq_some_iff_append, Bool.not_eq_true', ← Bool.not_eq_true, claims_iff]
  constructor
  · rintro ⟨hk, before, rest, hl, hb⟩
    exact ⟨before, rest, hl, hk, hb⟩
  · rintro ⟨before, rest, hl, hk, hb⟩
    exact ⟨hk, before, rest, hl, hb⟩

/-! ### The composited index -/

theorem sprComposite_outIdx_getD (s : State) {x : Nat} (h : x < 256) :
    (sprComposite s).line.outIdx.getD x 0 = s.compositePixel x := by
  show ((List.range 256).map s.compositePixel).getD x 0 = _
  rw [List.getD_eq_getElem?_getD, List.getElem?_map, List.getElem?_range h]
  rfl

theorem compositePixel_of_none {s : State} {x : Nat} (h : s.claimant x = none) : s.compositePixel x = s.line.bgIndex x := by
  rw [State.compositePixel, h]

theorem compositePixel_of_some {s : State} {x : Nat} {k : SpriteSlot} (h : s.claimant x = some k) : s.compositePixel x =
    if k.attr.getLsbD 5 = false ∨ s.line.bgOpaque.getD x false = false then k.index x else s.line.bgIndex x := by
  rw [State.compositePixel, h]

/-- Settles O42: the claimant is found first in the list of slots; its pixel is read from the two planes. -/
theorem firstOpaqueSpriteClaims : Obligations.FirstOpaqueSpriteClaims := fun s x =>
  ⟨claimant_eq_some_iff s x, fun k => k.pixel_ne_zero x, fun k _ hdx => k.pixel_toNat hdx,
    fun hn hx => (sprComposite_outIdx_getD s hx).trans (compositePixel_of_none hn)⟩

/-- Settles O43: the three cases of `compositePixel_of_some`. -/
theorem spritePriority : Obligations.SpritePriority := by
  intro s x k hx hk
  rw [sprComposite_outIdx_getD s hx, compositePixel_of_some hk]
  refine ⟨fun hfront => if_pos (.inl hfront), fun _ hclear => if_pos (.inr hclear), fun hbehind hopaque => if_neg ?_⟩
  rw [hbehind, hopaque]
  decide

/-- A composited index is the background's or the claimant's (R242). -/
theorem compositePixel_cases (s : State) (x : Nat) : s.compositePixel x = s.line.bgIndex x ∨
    ∃ k, s.claimant x = some k ∧ s.compositePixel x = k.index x := by
  cases hk : s.claimant x with
  | none => exact .inl (compositePixel_of_none hk)
  | some k =>
    rw [compositePixel_of_some hk]
    split
    · exact .inr ⟨k, rfl, rfl⟩
    · exact .inl rfl

theorem spriteStage_outIdx_getD (y : Nat) (s : State) {x : Nat} (h : x < 256) :
    (spriteStage y s).line.outIdx.getD x 0 = (spriteStage y s).line.bgIndex x := by
  show ((List.range 256).map (sprFetch y (selectSprites y s)).line.bgIndex).getD x 0 = _
  rw [List.getD_eq_getElem?_getD, List.getElem?_map, List.getElem?_range h]
  rfl

/-- Compositing reads nothing that it writes. -/
theorem sprComposite_compositePixel (s : State) : (sprComposite s).compositePixel = s.compositePixel := rfl

/-- The indices of a line: the background's with sprites disabled, else the composited ones (R230, R247). -/
theorem sprLine_outIdx_getD (y : Nat) (s : State) {x : Nat} (h : x < 256) : (sprLine y s).line.outIdx.getD x 0 =
    if s.sprEn then (sprLine y s).compositePixel x else (sprLine y s).line.bgIndex x := by
  rw [sprLine]
  split
  · rw [sprComposite_outIdx_getD _ h, sprComposite_compositePixel]
  · exact spriteStage_outIdx_getD y s h

/-- Settles O44: by `sprLine_outIdx_getD` and the two cases of a composited index. -/
theorem compositedIndexValues : Obligations.CompositedIndexValues := by
  intro s y x hx
  have hout : (sprLine y s).line.outIdx.getD x 0 =
      if s.control1.getLsbD 4 then (sprLine y s).compositePixel x else (sprLine y s).line.bgIndex x :=
    sprLine_outIdx_getD y s hx
  have hbg := LineBuffers.bgIndex_toNat (sprLine y s).line x
  have hlt := ((sprLine y s).line.bgIndex_lt x).1
  cases hen : s.control1.getLsbD 4 with
  | false =>
    have hback := hout.trans (if_neg (Bool.eq_false_iff.1 hen))
    exact ⟨fun _ => hback, .inl ⟨hback, hbg, hlt⟩⟩
  | true =>
    rw [if_pos hen] at hout
    refine ⟨fun h => by simp at h, ?_⟩
    rcases compositePixel_cases (sprLine y s) x with hback | ⟨k, hk, hindex⟩
    · exact .inl ⟨hout.trans hback, hbg, hlt⟩
    · obtain ⟨_, _, -, hclaim, -⟩ := (claimant_eq_some_iff _ _ _).1 hk
      exact .inr ⟨k, hk, by rw [hout, hindex, k.index_toNat], hclaim.1⟩

end Sys2Proof.Machine
end

section
/-! The sprites of a rendered line: selection (O40), fetch (O41) and the sprite-0 hit (O45). -/

namespace Sys2Proof.Machine

/-! ### The line of a visible scanline -/

/-- A visible scanline with its line composited, before the row is written (R177). -/
def renderedLine (s : State) : State := sprLine s.scanline (backgroundStage (hblankStart s))

/-- The row of a visible scanline (R266). -/
def renderedRow (s : State) : List Rgb := (renderedLine s).line.outIdx.map s.colorOf

/-- EV_HBLANK on a visible scanline, field by field (R173, R177). -/
theorem hblankEffect_eq {s : State} (h : s.scanline < 240) : hblankEffect s = { s with
    hblankDone := true, dot := s.variant.hblankDot, drawPhase := .sprite
    line := (renderedLine s).line, status := (renderedLine s).status
    patternCalls := (renderedLine s).patternCalls, draws := (renderedLine s).draws
    refreshData := if s.renderingEnabled then nextRow (reloadHorizontal s.refreshData s.refreshLatch) else s.refreshData
    fb := Cells.store s.fb s.scanline (renderedRow s)
    outputs := s.outputs ++ [s.hblankOutput, .row s.scanline (renderedRow s)] } := by
  obtain ⟨hv, hc1, -, hp, -, -, hphase, -⟩ := renderedLine_fields s.scanline (hblankStart s)
  have hrow : (renderedLine s).line.outIdx.map (renderedLine s).colorOf = renderedRow s :=
    congrArg (List.map · _) (colorOf_congr hv hc1 hp)
  have heq := renderScanline_eq s.scanline (hblankStart s)
  have hrefresh := renderScanline_refreshData s.scanline (hblankStart s)
  have hfields := hblankEffect_renderOnly s
  rw [hblankEffect_visible s h] at hfields ⊢
  unfold RenderOnly at hfields
  generalize renderScanline s.scanline (hblankStart s) = t at *
  have hout : t.outputs = s.outputs ++ [s.hblankOutput, .row s.scanline (renderedRow s)] := by
    rw [← hrow]
    exact (congrArg State.outputs heq).trans (List.append_assoc ..)
  have hfb : t.fb = Cells.store s.fb s.scanline (renderedRow s) := by rw [heq, ← hrow]; rfl
  have hline : t.line = (renderedLine s).line := by rw [heq]; rfl
  have hstatus : t.status = (renderedLine s).status := by rw [heq]; rfl
  have hcalls : t.patternCalls = (renderedLine s).patternCalls := by rw [heq]; rfl
  have hdraws : t.draws = (renderedLine s).draws := by rw [heq]; rfl
  have hdraw : t.drawPhase = .sprite := by rw [heq]; exact hphase
  rw [hfields, hout, hfb, hline, hstatus, hcalls, hdraws, hdraw, hrefresh]
  rfl

theorem hblankEffect_line {s : State} (h : s.scanline < 240) : (hblankEffect s).line = (renderedLine s).line := by
  rw [hblankEffect_eq h]

/-! ### What rendering leaves -/

theorem FetchOnly.renderOnly {s t : State} (h : FetchOnly s t) : RenderOnly s t := (h.lineOnly t.line).lineStatusOnly.renderOnly

theorem RenderOnly.closedPattern {s t : State} (h : RenderOnly s t) {b : Nat → Byte} (hb : ClosedPattern s b) :
    ClosedPattern t b := by
  unfold RenderOnly at h; rw [h]; exact hb

theorem RenderOnly.spritePatternAddress {s t : State} (h : RenderOnly s t) :
    t.spritePatternAddress = s.spritePatternAddress := by
  unfold RenderOnly at h; rw [h]; rfl

/-- The pattern address of a slot depends on its sprite and its attributes. -/
theorem spritePatternAddress_slot (s : State) (y : Nat) {k j : SpriteSlot} (hs : j.sel = k.sel) (ha : j.attr = k.attr) :
    s.spritePatternAddress y j = s.spritePatternAddress y k := by
  simp only [State.spritePatternAddress, State.spriteRow, hs, ha]

/-! ### Selection -/

theorem oamByte_of_lt (s : State) {i : Nat} (h : i < 256) : s.oamByte i = s.readByte .oam i := by
  rw [State.oamByte, Nat.mod_eq_of_lt h]

theorem spritesInRange_eq (s : State) (y : Nat) : s.spritesInRange y = (List.range 64).filter fun n => decide
    ((s.readByte .oam (4 * n)).toNat + s.variant.spriteYOffset ≤ y ∧
      y < (s.readByte .oam (4 * n)).toNat + s.variant.spriteYOffset + (if s.control0.getLsbD 5 then 16 else 8)) := by
  refine List.filter_congr fun n hn => ?_
  have hn : n < 64 := List.mem_range.1 hn
  rw [State.inRange, State.spriteTop, State.spriteY, oamByte_of_lt s (by omega), Bool.decide_and]
  rfl

/-- The sprites of a line: the first eight in range (R235). -/
theorem sprLine_sel (y : Nat) (s : State) : (sprLine y s).line.sprites.map (·.sel) =
    if s.renderingEnabled then (s.spritesInRange y).take 8 else [] := by
  have h := congrArg (List.map Prod.fst) (sprLine_slots y s)
  rw [List.map_map, List.map_map, selectSprites_sprites] at h
  refine h.trans ?_
  split
  · rw [List.map_map]; exact List.map_id _
  · rfl

theorem renderedLine_sel (s : State) : (renderedLine s).line.sprites.map (·.sel) =
    if s.renderingEnabled then (s.spritesInRange s.scanline).take 8 else [] := by
  obtain ⟨ho, hv, hc0, hc1, -, -⟩ := backgroundStage_fields (hblankStart s)
  have hen : (backgroundStage (hblankStart s)).renderingEnabled = s.renderingEnabled := by
    rw [State.renderingEnabled, State.bgEn, State.sprEn, hc1]; rfl
  rw [renderedLine, sprLine_sel, hen, spritesInRange_congr ho hv hc0]
  rfl

/-- Every slot of a visible scanline is the fetched slot of a sprite in range. -/
theorem renderedLine_slot {s : State} {k : SpriteSlot} (h : k ∈ (renderedLine s).line.sprites) :
    k.sel ∈ s.spritesInRange s.scanline ∧ k.attr = s.spriteAttr k.sel ∧ k.x = s.spriteX k.sel ∧
      ∃ t, RenderOnly (hblankStart s) t ∧ k = (fetchSlot s.scanline (s.slotOf k.sel) t).1 := by
  obtain ⟨ho, hv, hc0, -, -, -⟩ := backgroundStage_fields (hblankStart s)
  obtain ⟨-, n, hn, t, ht, hk⟩ := mem_sprLine_sprites _ _ _ h
  have hslot : (backgroundStage (hblankStart s)).slotOf n = s.slotOf n := by
    have hf := backgroundStage_renderOnly (hblankStart s)
    unfold RenderOnly at hf
    rw [hf]; rfl
  rw [hslot] at hk
  have hsel : k.sel = n := congrArg SpriteSlot.sel hk
  rw [hsel]
  rw [spritesInRange_congr ho hv hc0] at hn
  exact ⟨hn, congrArg SpriteSlot.attr hk, congrArg SpriteSlot.x hk, t,
    (backgroundStage_renderOnly _).trans ((selectSprites_lineStatusOnly _ _).renderOnly.trans ht.renderOnly), hk⟩

/-- STATUS after a visible scanline: evaluation and the hit detector set their flags (R236, R245). -/
theorem hblankEffect_status {s : State} (h : s.scanline < 240) (b : Nat) : (hblankEffect s).status.getLsbD b =
    (s.status.getLsbD b || (s.renderingEnabled && decide (b = 5) && decide (8 < (s.spritesInRange s.scanline).length)) ||
      (s.sprEn && decide (b = 6) &&
        (List.range 256).any (spriteStage s.scanline (backgroundStage (hblankStart s))).sprite0HitAt)) := by
  rw [hblankEffect_visible s h, renderScanline_status]
  rfl

/-- Settles O40: by `sprLine_sel`, `renderedLine_slot` and the OVERFLOW bit of `hblankEffect_status`. -/
theorem spriteSelection : Obligations.SpriteSelection := by
  intro s hd hvis
  refine ⟨hblankEffect s, if s.renderingEnabled then s.spritesInRange s.scanline else [], exec_evHblank s hd, ?_, ?_,
    fun k hk => ?_, ?_⟩
  · rw [spritesInRange_eq]; rfl
  · rw [hblankEffect_line hvis, renderedLine_sel]
    split <;> rfl
  · rw [hblankEffect_line hvis] at hk
    obtain ⟨hn, ha, hx, -⟩ := renderedLine_slot hk
    have hlt := (mem_spritesInRange _ _ _ hn).1
    rw [ha, hx, State.spriteAttr, State.spriteX, oamByte_of_lt s (by omega), oamByte_of_lt s (by omega)]
    exact ⟨rfl, rfl⟩
  · rw [hblankEffect_status hvis]
    cases s.renderingEnabled
    · simp
    · simp [Nat.succ_le_iff]

/-! ### Fetch -/

theorem flipH_getLsbD (a plane : Byte) {j : Nat} (h : j < 8) :
    (flipH a plane).getLsbD j = plane.getLsbD (if a.getLsbD 6 then 7 - j else j) := by
  rw [flipH]
  cases a.getLsbD 6 with
  | false => rfl
  | true =>
    show plane.reverse.getLsbD j = plane.getLsbD (7 - j)
    rw [BitVec.getLsbD_reverse, BitVec.getMsbD, decide_eq_true h, Bool.true_and]

/-- The row of a sprite on a scanline that shows it (R237). -/
theorem spriteRow_spec {s : State} {y : Nat} {k : SpriteSlot} (h : s.inRange y k.sel = true) :
    s.spriteRow y k + (if k.attr.getLsbD 7 then y - s.spriteTop k.sel else 0) =
      (if k.attr.getLsbD 7 then s.spriteHeight - 1 else y - s.spriteTop k.sel) ∧ s.spriteRow y k < s.spriteHeight := by
  simp only [State.inRange, Bool.and_eq_true, decide_eq_true_iff] at h
  unfold State.spriteRow
  show (if k.attr.getLsbD 7 then _ else _) + _ = _ ∧ (if k.attr.getLsbD 7 then _ else _) < _
  cases k.attr.getLsbD 7
  · simp only [Bool.false_eq_true, if_false]; omega
  · simp only [if_true]; omega

theorem spritePatternAddress_small {s : State} (h : s.control0.getLsbD 5 = false) (y : Nat) (k : SpriteSlot) :
    s.spritePatternAddress y k =
      (if s.control0.getLsbD 3 then 0x1000 else 0) + (s.spriteTile k.sel).toNat * 16 + s.spriteRow y k := by
  have hh : s.spriteHeight = 8 := if_neg (Bool.eq_false_iff.1 h)
  rw [State.spritePatternAddress, if_pos hh]
  show (s.control0.getLsbD 3).toNat * 0x1000 + _ * 16 + _ = _
  cases s.control0.getLsbD 3 <;> rfl

theorem spritePatternAddress_tall {s : State} (h : s.control0.getLsbD 5 = true) (y : Nat) (k : SpriteSlot) :
    s.spritePatternAddress y k = (s.spriteTile k.sel).toNat % 2 * 0x1000 +
      ((s.spriteTile k.sel).toNat / 2 * 2 + s.spriteRow y k / 8) * 16 + s.spriteRow y k % 8 := by
  have hh : s.spriteHeight = 16 := if_pos h
  rw [State.spritePatternAddress, if_neg (by rw [hh]; decide)]
  rfl

/-- Both plane bytes of a sprite lie in pattern space. -/
theorem spritePatternAddress_lt {s : State} {y : Nat} {k : SpriteSlot} (h : s.inRange y k.sel = true) :
    s.spritePatternAddress y k + 8 < Layout.patternSize := by
  have hrow := (spriteRow_spec h).2
  have htile := (s.spriteTile k.sel).isLt
  show _ < 0x2000
  cases hsize : s.control0.getLsbD 5 with
  | false =>
    have hh : s.spriteHeight = 8 := if_neg (Bool.eq_false_iff.1 hsize)
    rw [spritePatternAddress_small hsize]
    split <;> omega
  | true =>
    have hh : s.spriteHeight = 16 := if_pos hsize
    rw [spritePatternAddress_tall hsize]
    omega

/-- The planes of a slot in the closed pattern model (R237, R240). -/
theorem renderedLine_planes {s : State} {k : SpriteSlot} (h : k ∈ (renderedLine s).line.sprites) {b : Nat → Byte}
    (hb : ClosedPattern s b) : k.p0 = flipH k.attr (b (s.spritePatternAddress s.scanline k)) ∧
      k.p1 = flipH k.attr (b (s.spritePatternAddress s.scanline k + 8)) := by
  obtain ⟨hn, hattr, -, t, ht, hk⟩ := renderedLine_slot h
  have hlt := spritePatternAddress_lt (mem_spritesInRange _ _ _ hn).2
  have haddr : t.spritePatternAddress s.scanline (s.slotOf k.sel) = s.spritePatternAddress s.scanline k := by
    rw [ht.spritePatternAddress]
    exact spritePatternAddress_slot s _ rfl hattr.symm
  have hbt : ClosedPattern t b := ht.closedPattern hb
  have h0 : k.p0 = flipH k.attr (t.patternAnswer .sprite (t.spritePatternAddress s.scanline (s.slotOf k.sel)) 0) := by
    rw [hattr]; exact congrArg SpriteSlot.p0 hk
  have h1 : k.p1 = flipH k.attr ((chrRead .sprite (t.spritePatternAddress s.scanline (s.slotOf k.sel)) 0 t).2.patternAnswer
      .sprite (t.spritePatternAddress s.scanline (s.slotOf k.sel) + 8) 0) := by
    rw [hattr]; exact congrArg SpriteSlot.p1 hk
  rw [haddr] at h0 h1
  rw [hbt.patternAnswer _ _ (by omega)] at h0
  rw [((chrRead_fetchOnly _ _ _ t).closedPattern hbt).patternAnswer _ _ hlt] at h1
  exact ⟨h0, h1⟩

/-- Settles O41: the row by `spriteRow_spec`, the address by size, the planes by `renderedLine_planes`. -/
theorem spritePlanesFetched : Obligations.SpritePlanesFetched := by
  intro s hd hvis
  refine ⟨hblankEffect s, exec_evHblank s hd, fun k hk => ?_⟩
  rw [hblankEffect_line hvis] at hk
  obtain ⟨hlt, hrange⟩ := mem_spritesInRange _ _ _ (renderedLine_slot hk).1
  obtain ⟨hrow, hrowlt⟩ := spriteRow_spec hrange
  have htile : s.spriteTile k.sel = s.readByte .oam (4 * k.sel + 1) := oamByte_of_lt s (by omega)
  have htop : s.spriteTop k.sel = (s.readByte .oam (4 * k.sel)).toNat + s.variant.spriteYOffset := by
    rw [State.spriteTop, State.spriteY, oamByte_of_lt s (by omega)]
  rw [htop] at hrow
  refine ⟨(s.spriteTile k.sel).toNat, s.spriteRow s.scanline k, _, s.spriteHeight, rfl, rfl, congrArg _ htile, hrow, hrowlt,
    fun hsize => spritePatternAddress_small hsize _ _, fun hsize => spritePatternAddress_tall hsize _ _, fun b hb => ?_⟩
  obtain ⟨h0, h1⟩ := renderedLine_planes hk hb
  exact ⟨fun j hj => (congrArg (BitVec.getLsbD · j) h0).trans (flipH_getLsbD _ _ hj),
    fun j hj => (congrArg (BitVec.getLsbD · j) h1).trans (flipH_getLsbD _ _ hj)⟩

/-! ### The sprite-0 hit -/

/-- OAM sprite 0 claims a pixel exactly when it is selected first and shows there: the slots ascend (R235, R245). -/
theorem claimant_sel_zero_iff {s : State} (h : s.line.sprites.Pairwise fun a b => a.sel < b.sel) (x : Nat) :
    (∃ k, s.claimant x = some k ∧ k.sel = 0) ↔ ∃ k, s.line.sprites.head? = some k ∧ k.sel = 0 ∧ k.pixel x ≠ 0 ∧
      (s.control1.getLsbD 2 = true ∨ 8 ≤ x) := by
  constructor
  · rintro ⟨k, hk, h0⟩
    obtain ⟨before, rest, hl, ⟨hp, hc⟩, -⟩ := (claimant_eq_some_iff _ _ _).1 hk
    cases before with
    | nil => exact ⟨k, by rw [hl]; rfl, h0, hp, hc⟩
    | cons j before =>
      rw [hl] at h
      have hlt : j.sel < k.sel := List.rel_of_pairwise_cons h (by simp)
      omega
  · rintro ⟨k, hhead, h0, hp, hc⟩
    obtain ⟨rest, hl⟩ := List.head?_eq_some_iff.1 hhead
    exact ⟨k, (claimant_eq_some_iff _ _ _).2 ⟨[], rest, hl, ⟨hp, hc⟩, by simp⟩, h0⟩

theorem sprite0HitAt_iff (s : State) (x : Nat) : s.sprite0HitAt x = true ↔
    (∃ k, s.claimant x = some k ∧ k.sel = 0) ∧ s.line.bgOpaque.getD x false = true ∧ x < s.variant.s0HitXLimit := by
  rw [State.sprite0HitAt]
  cases hk : s.claimant x with
  | none => simp
  | some k => simp [and_assoc]

/-- Where sprite 0 hits on a line, said of the line as it is left. -/
theorem spriteStage_hit_iff {y : Nat} {s : State} (h : s.sprEn = true) (x : Nat) :
    (spriteStage y s).sprite0HitAt x = true ↔ x < s.variant.s0HitXLimit ∧
      ∃ k, (sprLine y s).line.sprites.head? = some k ∧ k.sel = 0 ∧ k.pixel x ≠ 0 ∧
        (s.control1.getLsbD 2 = true ∨ 8 ≤ x) ∧ (sprLine y s).line.bgOpaque.getD x false = true := by
  have hslots := (sprLine_slotsOk y s).2.1
  have hstage := spriteStage_lineStatusOnly y s
  have hline : sprLine y s = sprComposite (spriteStage y s) := if_pos h
  unfold LineStatusOnly at hstage
  have hc : (spriteStage y s).control1 = s.control1 := by rw [hstage]
  have hv : (spriteStage y s).variant = s.variant := by rw [hstage]
  rw [hline] at hslots ⊢
  have hascend : (spriteStage y s).line.sprites.Pairwise fun a b => a.sel < b.sel := hslots
  rw [sprite0HitAt_iff, claimant_sel_zero_iff hascend, hc, hv]
  constructor
  · rintro ⟨⟨k, hhead, h0, hp, hcl⟩, ho, hx⟩
    exact ⟨hx, k, hhead, h0, hp, hcl, ho⟩
  · rintro ⟨hx, k, hhead, h0, hp, hcl, ho⟩
    exact ⟨⟨k, hhead, h0, hp, hcl⟩, ho, hx⟩

/-- Settles O45: the SPRITE0_HIT bit of `hblankEffect_status`, the hits by `spriteStage_hit_iff`. -/
theorem sprite0HitExactly : Obligations.Sprite0HitExactly := by
  intro s hd hvis
  obtain ⟨-, hv, -, hc1, -, -⟩ := backgroundStage_fields (hblankStart s)
  have hstatus : (hblankEffect s).status.getLsbD 6 = (s.status.getLsbD 6 || (s.sprEn &&
      (List.range 256).any (spriteStage s.scanline (backgroundStage (hblankStart s))).sprite0HitAt)) := by
    rw [hblankEffect_status hvis]; simp
  refine ⟨hblankEffect s, exec_evHblank s hd, ?_⟩
  rw [hblankEffect_line hvis, hstatus, Bool.or_eq_true, Bool.and_eq_true, List.any_eq_true]
  refine or_congr_right (and_congr_right fun hen => ?_)
  have hu : (backgroundStage (hblankStart s)).sprEn = true := by rw [State.sprEn, hc1]; exact hen
  simp only [spriteStage_hit_iff hu, hv, hc1, List.mem_range]
  constructor
  · rintro ⟨x, hx, hlimit, k, hk⟩
    exact ⟨x, k, hx, hlimit, hk⟩
  · rintro ⟨x, k, hx, hlimit, hk⟩
    exact ⟨x, hx, hlimit, k, hk⟩

end Sys2Proof.Machine
end

section
/-! A rendered line: what the collaborator observes (O39), the backdrop (O35), the scroll position (O34), the row (O33). -/

namespace Sys2Proof.Machine

/-! ### Calls -/

theorem columnCalls_eq_tileCalls {s : State} (h : s.drawPhase = .background) (v : VAddr) (col : Nat) :
    columnCalls (fineY v).toNat (coarseY v).toNat (screenColumn v col).1 (screenColumn v col).2 s = s.tileCalls v col := by
  have hgroup : attributeGroup (s.ntRead (attributeAddress (screenColumn v col).1 (coarseY v).toNat (screenColumn v col).2))
      (coarseY v).toNat (screenColumn v col).2 = BitVec.ofNat 2 (s.columnGroup v col) := by
    rw [State.columnGroup, ← attributeGroup_toNat, BitVec.ofNat_toNat, BitVec.setWidth_eq]
    rfl
  rw [columnCalls, h, hgroup, patternAddress_tilePage]
  rfl

/-- What the collaborator observes of the background of a line (R200, R209, R213). -/
theorem bgLine_patternCalls {s : State} (h : s.drawPhase = .background) : (bgLine s).patternCalls = s.patternCalls ++
    if s.bgEn then (List.range 33).flatMap (s.tileCalls s.refreshData) else [] := by
  cases hen : s.bgEn with
  | false => rw [bgLine_disabled hen]; exact (List.append_nil _).symm
  | true =>
    rw [bgLine, if_pos hen]
    refine (fetchColumns_patternCalls _ _ 33 _ _ s (coarseY _).isLt (ntField _).isLt (coarseX _).isLt).trans ?_
    refine congrArg (s.patternCalls ++ ·) (List.flatMap_congr fun col hcol => ?_)
    rw [columnWalk_eq_screenColumn _ (List.mem_range.1 hcol)]
    exact columnCalls_eq_tileCalls h _ _

theorem bgLine_draws (s : State) : (bgLine s).draws = s.draws + if s.bgEn then 66 else 0 := by
  cases hen : s.bgEn with
  | false => rw [bgLine_disabled hen]; rfl
  | true =>
    rw [bgLine, if_pos hen]
    exact fetchColumns_draws _ _ 33 _ _ s (coarseY _).isLt (ntField _).isLt (coarseX _).isLt

/-- After the fetch of a line only its buffers and STATUS change (R230). -/
theorem sprLine_afterFetch (y : Nat) (s : State) : sprLine y s = { sprFetch y (selectSprites y s) with
    line := (sprLine y s).line, status := (sprLine y s).status } := by
  rw [sprLine]
  split
  · rw [spriteStage]
    generalize sprFetch y (selectSprites y s) = u
    rfl
  · rw [spriteStage]

/-- What the collaborator observes of the sprites of a line (R237). -/
theorem sprLine_patternCalls (y : Nat) (s : State) : (sprLine y s).patternCalls = s.patternCalls ++
    (sprLine y s).line.sprites.flatMap (slotCalls y s) := by
  have hsel := selectSprites_lineStatusOnly y s
  have hcalls : (sprLine y s).patternCalls = (sprFetch y (selectSprites y s)).patternCalls := by
    rw [sprLine_afterFetch]
  have hpc : (selectSprites y s).patternCalls = s.patternCalls := by rw [selectSprites_eq]
  have hslot : slotCalls y (selectSprites y s) = slotCalls y s := by rw [selectSprites_eq]; rfl
  rw [hcalls, sprFetch, fetchSlots_patternCalls, hpc, hslot, sprLine_sprites, fetchSlots_slotCalls]

theorem sprLine_draws (y : Nat) (s : State) : (sprLine y s).draws = s.draws + 2 * (sprLine y s).line.sprites.length := by
  have hdraws : (sprLine y s).draws = (sprFetch y (selectSprites y s)).draws := by rw [sprLine_afterFetch]
  have hd : (selectSprites y s).draws = s.draws := by rw [selectSprites_eq]
  have hlen := congrArg List.length (sprLine_slots y s)
  rw [List.length_map, List.length_map] at hlen
  rw [hdraws, sprFetch, fetchSlots_draws, hd, hlen]

/-- The state with its hblank mark, dot, outputs and line buffers replaced: no fetch of the background reads them. -/
def State.withUnread (s : State) (d : Bool) (dot : Nat) (o : List OutputEvent) (l : LineBuffers) : State :=
  { s with hblankDone := d, dot := dot, outputs := o, line := l }

/-- The state from which BgLine builds the background of a visible scanline (R177, R201). -/
def backgroundStart (s : State) : State := { s with refreshData := lineStart s, drawPhase := .background }

theorem startLine_hblankStart (s : State) : startLine (hblankStart s) = (backgroundStart s).withUnread true
    s.variant.hblankDot (s.outputs ++ [s.hblankOutput]) LineBuffers.cleared := by
  have hr : (hblankStart s).clearLine.renderingEnabled = s.renderingEnabled := rfl
  rw [startLine, horizontalReload, hr, backgroundStart, lineStart]
  split <;> rfl

/-- The tile reads of a visible scanline, then the sprite reads (R90, R209, R237). -/
theorem renderedLine_patternCalls (s : State) : (renderedLine s).patternCalls = s.patternCalls ++
    (if s.control1.getLsbD 3 then (List.range 33).flatMap (s.tileCalls (lineStart s)) else []) ++
    (renderedLine s).line.sprites.flatMap s.spriteCalls := by
  have hslot : slotCalls s.scanline (backgroundStage (hblankStart s)) = s.spriteCalls := by
    have hf := (backgroundStage_renderOnly (hblankStart s)).spritePatternAddress
    funext k
    rw [slotCalls, hf]
    rfl
  have hbg : (backgroundStage (hblankStart s)).patternCalls = s.patternCalls ++
      if s.control1.getLsbD 3 then (List.range 33).flatMap (s.tileCalls (lineStart s)) else [] := by
    have h := bgLine_patternCalls (s := startLine (hblankStart s)) rfl
    rw [backgroundStage]
    refine h.trans ?_
    rw [startLine_hblankStart]
    rfl
  rw [renderedLine, sprLine_patternCalls, hslot, hbg]

theorem renderedLine_draws (s : State) : (renderedLine s).draws = s.draws + (if s.control1.getLsbD 3 then 66 else 0) +
    2 * (renderedLine s).line.sprites.length := by
  have hbg : (backgroundStage (hblankStart s)).draws = s.draws + if s.control1.getLsbD 3 then 66 else 0 := by
    refine (bgLine_draws (startLine (hblankStart s))).trans ?_
    rw [startLine_hblankStart]
    rfl
  rw [renderedLine, sprLine_draws, hbg]

theorem flatMap_two_length {α β : Type} {f : α → List β} (h : ∀ a, (f a).length = 2) (l : List α) :
    (l.flatMap f).length = 2 * l.length := by
  rw [List.length_flatMap, funext h, List.map_const', List.sum_replicate_nat, Nat.mul_comm]

/-- Settles O39: by `renderedLine_patternCalls` and `renderedLine_draws`; two calls for each column and each slot. -/
theorem fetchesOfARenderedLine : Obligations.FetchesOfARenderedLine := by
  intro s hd hvis
  have htiles : (if s.control1.getLsbD 3 then (List.range 33).flatMap (s.tileCalls (lineStart s)) else []).length =
      if s.control1.getLsbD 3 then 66 else 0 := by
    split
    · exact flatMap_two_length (fun _ => rfl) _
    · rfl
  have hsprites : ((renderedLine s).line.sprites.flatMap s.spriteCalls).length = 2 * (renderedLine s).line.sprites.length :=
    flatMap_two_length (fun _ => rfl) _
  refine ⟨hblankEffect s, _, (renderedLine s).line.sprites.flatMap s.spriteCalls, exec_evHblank s hd, ?_, rfl, ?_, htiles,
    ?_, ?_⟩
  all_goals rw [hblankEffect_eq hvis]
  · exact renderedLine_patternCalls s
  · exact hsprites
  · rw [htiles, hsprites]; exact renderedLine_draws s

/-! ### The scroll position -/

/-- Settles O34: the horizontal reload, then the next row of the picture (`nextRow_spec`). -/
theorem scrollAfterARenderedLine : Obligations.ScrollAfterARenderedLine := by
  intro s hd hvis
  refine ⟨hblankEffect s, exec_evHblank s hd, ?_, ?_⟩
  all_goals
    intro hen
    rw [hblankEffect_eq hvis]
  · exact if_neg (Bool.eq_false_iff.1 hen)
  · have hv : (if s.renderingEnabled then nextRow (reloadHorizontal s.refreshData s.refreshLatch) else s.refreshData) =
      nextRow (reloadHorizontal s.refreshData s.refreshLatch) := if_pos hen
    obtain ⟨hx, h10, hlow, hhigh⟩ := nextRow_spec (reloadHorizontal s.refreshData s.refreshLatch)
    rw [coarseX_reloadHorizontal] at hx
    rw [bit10_reloadHorizontal] at h10
    rw [coarseY_reloadHorizontal, fineY_reloadHorizontal, bit11_reloadHorizontal] at hlow hhigh
    rw [hv]
    exact ⟨hx, h10, hlow, hhigh⟩

/-! ### The row -/

theorem getLsbD_reloadHorizontal (v l : VAddr) (b : Nat) : (reloadHorizontal v l).getLsbD b =
    if b < 5 ∨ b = 10 then l.getLsbD b else v.getLsbD b := by
  rw [reloadHorizontal, setCoarseX, coarseX, getLsbD_setBits, getLsbD_setBits, getLsbD_bits, getLsbD_bits]
  show (if 10 ≤ b ∧ b < 11 then _ else if 0 ≤ b ∧ b < 5 then _ else _) = _
  by_cases h10 : b = 10
  · subst h10; simp [Layout.ntLo]
  · by_cases h5 : b < 5
    · rw [if_neg (by omega), if_pos (by omega), if_pos (.inl h5)]
      have h15 : b < 15 := by omega
      simp [Layout.coarseXLo, h5, h15]
    · rw [if_neg (by omega), if_neg (by omega), if_neg (by omega)]

theorem getLsbD_lineStart (s : State) (b : Nat) : (lineStart s).getLsbD b =
    if (s.control1.getLsbD 3 || s.control1.getLsbD 4) = true ∧ (b < 5 ∨ b = 10) then s.refreshLatch.getLsbD b
    else s.refreshData.getLsbD b := by
  have hr : s.renderingEnabled = (s.control1.getLsbD 3 || s.control1.getLsbD 4) := rfl
  rw [lineStart, hr]
  cases s.control1.getLsbD 3 || s.control1.getLsbD 4
  · simp
  · simp [getLsbD_reloadHorizontal]

section
variable (d : Bool) (dot : Nat) (o : List OutputEvent) (l : LineBuffers)

theorem vramRead_withUnread (a : Nat) (s : State) : vramRead a (s.withUnread d dot o l) =
    ((vramRead a s).1, (vramRead a s).2.withUnread d dot o l) := by
  have hv : (s.withUnread d dot o l).variant = s.variant := rfl
  rw [vramRead, vramRead, hv]
  cases resolve s.variant.mirroring a <;> rfl

theorem fetchColumn_withUnread (fy cy nt cx : Nat) (s : State) : fetchColumn fy cy nt cx (s.withUnread d dot o l) =
    ((fetchColumn fy cy nt cx s).1, (fetchColumn fy cy nt cx s).2.withUnread d dot o l) := by
  simp only [fetchColumn, vramRead_withUnread]
  rfl

theorem fetchColumns_withUnread (fy cy n nt cx : Nat) (s : State) : fetchColumns fy cy n nt cx (s.withUnread d dot o l) =
    ((fetchColumns fy cy n nt cx s).1, (fetchColumns fy cy n nt cx s).2.withUnread d dot o l) := by
  induction n generalizing nt cx s with
  | zero => rfl
  | succ n ih => simp only [fetchColumns, fetchColumn_withUnread, ih]

/-- The background of a line does not depend on what no fetch reads. -/
theorem bgLine_withUnread (s : State) : (bgLine (s.withUnread d dot o l)).line.bgPix = (bgLine s).line.bgPix ∧
    (bgLine (s.withUnread d dot o l)).line.bgGroup = (bgLine s).line.bgGroup ∧
    (bgLine (s.withUnread d dot o l)).line.bgOpaque = (bgLine s).line.bgOpaque := by
  have hfetch : (fetchLine (s.withUnread d dot o l)).1 = (fetchLine s).1 :=
    congrArg (·.1) (fetchColumns_withUnread d dot o l _ _ 33 _ _ s)
  have hen : (s.withUnread d dot o l).bgEn = s.bgEn := rfl
  cases h : s.bgEn with
  | false => rw [bgLine_disabled (hen.trans h), bgLine_disabled h]; exact ⟨rfl, rfl, rfl⟩
  | true => rw [bgLine_enabled (hen.trans h), bgLine_enabled h, hfetch]; exact ⟨rfl, rfl, rfl⟩

end

/-- The background of a visible scanline is that of BgLine from `lineStart` (R177, R201). -/
theorem renderedLine_background (s : State) : (renderedLine s).line.bgPix = (bgLine (backgroundStart s)).line.bgPix ∧
    (renderedLine s).line.bgGroup = (bgLine (backgroundStart s)).line.bgGroup ∧
    (renderedLine s).line.bgOpaque = (bgLine (backgroundStart s)).line.bgOpaque := by
  have hbg := bgLine_withUnread true s.variant.hblankDot (s.outputs ++ [s.hblankOutput]) LineBuffers.cleared
    (backgroundStart s)
  rw [← startLine_hblankStart] at hbg
  rw [renderedLine, sprLine_line]
  exact hbg

theorem claimant_congr {s t : State} (hl : t.line = s.line) (hc : t.control1 = s.control1) (x : Nat) :
    t.claimant x = s.claimant x := by
  simp only [State.claimant, State.spriteClipped, State.sprL8, hl, hc]

/-- The indices of a visible scanline (R247, R266). -/
theorem renderedLine_outIdx (s : State) {x : Nat} (h : x < 256) : (renderedLine s).line.outIdx.getD x 0 =
    if s.control1.getLsbD 4 then (renderedLine s).compositePixel x else (renderedLine s).line.bgIndex x := by
  obtain ⟨-, -, -, hc1, -, -⟩ := backgroundStage_fields (hblankStart s)
  have hen : (backgroundStage (hblankStart s)).sprEn = s.control1.getLsbD 4 := by rw [State.sprEn, hc1]; rfl
  rw [renderedLine, sprLine_outIdx_getD _ _ h, hen]

/-- A pixel of the row of a visible scanline is the colour of its index (R266). -/
theorem hblankEffect_pixel {s : State} (h : s.scanline < 240) {x : Nat} (hx : x < 256) :
    (hblankEffect s).pixel s.scanline x = s.colorOf ((renderedLine s).line.outIdx.getD x 0) := by
  have hlen : x < (renderedLine s).line.outIdx.length := by rw [renderedLine, sprLine_outIdx_length]; exact hx
  rw [hblankEffect_eq h, State.pixel]
  dsimp only
  rw [Cells.lookup_store_same, Option.bind_some, renderedRow, List.getElem?_map, List.getD_eq_getElem?_getD,
    List.getElem?_eq_getElem hlen]
  rfl

/-- Settles O35: no call and no slot without a layer; every index is the background's 0. -/
theorem backdropWhenDisabled : Obligations.BackdropWhenDisabled := by
  intro s hd hvis hbg hspr
  have hen : s.renderingEnabled = false := Bool.or_eq_false_iff.2 ⟨hbg, hspr⟩
  have hslots : (renderedLine s).line.sprites = [] := by
    have h := renderedLine_sel s
    rw [hen] at h
    exact List.map_eq_nil_iff.1 h
  refine ⟨hblankEffect s, exec_evHblank s hd, fun x hx => ?_, ?_, ?_, ?_⟩
  · have hpix : (renderedLine s).line.bgPix.getD x 0 = 0 := by
      rw [(renderedLine_background s).1]
      exact bgPix_transparent _ _ (.inl hbg)
    have hindex : (renderedLine s).line.outIdx.getD x 0 = 0 := by
      rw [renderedLine_outIdx s hx, hspr]
      exact if_pos hpix
    rw [hblankEffect_pixel hvis hx, hindex]
    rfl
  · rw [hblankEffect_eq hvis]
    refine (renderedLine_patternCalls s).trans ?_
    rw [hslots, hbg]
    simp
  · rw [hblankEffect_eq hvis]
    refine (renderedLine_draws s).trans ?_
    rw [hslots, hbg]
    rfl
  · have hs : s.sprEn = false := hspr
    refine BitVec.eq_of_getLsbD_eq fun b _ => ?_
    rw [hblankEffect_status hvis, hen, hs]
    simp

theorem hblankOutput_visible (s : State) (h : s.scanline < 240) : s.hblankOutput =
    .hblank s.scanline false (!(s.control1.getLsbD 3 || s.control1.getLsbD 4)) := by
  have hp : s.phase = .visible := if_pos h
  rw [State.hblankOutput, hp]
  rfl

/-- Settles O33: by `hblankEffect_eq`, the row by `hblankEffect_pixel`, the indices by `renderedLine_outIdx`. -/
theorem hblankRendersTheRow : Obligations.HblankRendersTheRow := by
  intro s hd hvis
  have hclaim : ∀ x, (hblankEffect s).claimant x = (renderedLine s).claimant x := by
    obtain ⟨-, hc1, -⟩ := renderedLine_fields s.scanline (hblankStart s)
    exact claimant_congr (hblankEffect_line hvis) (by rw [hblankEffect_eq hvis]; exact hc1.symm)
  refine ⟨hblankEffect s, exec_evHblank s hd, ?_, ?_, fun x hx => ?_, fun y x hy => ?_, fun sp a => ?_,
    fun b h5 h6 => hblankEffect_status_other s h5 h6, fun b hb => ?_, fun b => ?_, fun l hl => ?_, fun x hx => ?_⟩
  · rw [← hblankOutput_visible s hvis, hblankEffect_eq hvis]
    rfl
  · rw [hblankEffect_line hvis, renderedLine, sprLine_outIdx_length]
  · rw [hblankEffect_pixel hvis hx, hblankEffect_line hvis]
  · rw [hblankEffect_eq hvis, State.pixel]
    dsimp only
    rw [Cells.lookup_store_ne _ _ hy]
    rfl
  · rw [hblankEffect_eq hvis]
    exact State.readByte_congr rfl rfl rfl sp a
  · rw [hblankEffect_status hvis, hb, Bool.true_or, Bool.true_or]
  · exact getLsbD_lineStart s b
  · rw [hl, hblankEffect_line hvis]
    exact renderedLine_background s
  · rw [hblankEffect_line hvis, renderedLine_outIdx s hx, hclaim]
    refine ⟨fun h => if_neg (Bool.eq_false_iff.1 h), fun h hn => ?_, fun h k hk => ?_⟩
    · rw [if_pos h, compositePixel_of_none hn]
    · rw [if_pos h, compositePixel_of_some hk]

end Sys2Proof.Machine
end
